-- ==== Sys2Proof/Word.lean ====
section
/-! DEFINITION. The two widths of the core (00_scope.md R6): data bytes and 16-bit addresses. -/

namespace Sys2Proof

/-- A byte: A, X, Y, SP, a memory byte, the flags byte, a one-byte operand (R6, R10). -/
abbrev Byte := BitVec 8

/-- A 16-bit value: PC, an address, a two-byte operand (R6, R10, R82). -/
abbrev Word := BitVec 16

end Sys2Proof
end

