-- ==== Sys2Proof/Config.lean ====
section
/-! DEFINITION. What is fixed for this hardware (00_scope.md R6), and the launch values that State.reset takes.
The core has no free value: within a run every step is deterministic (93_implementation_defined.md section 1). -/

namespace Sys2Proof

/-- Size of memory in bytes, every 16-bit address backed (R6, R23). -/
def Config.memSize : Nat := 65536

/-- First address of the stack page; its high byte is fixed at 0x01 (R6, R12, R40). -/
def Config.stackPage : Word := 0x0100

/-- PC at reset. DESIGN CHOICE (log 1), unsafe: INIT_PC has no default (R26, R271); 0x0200 is where the vectors of
95_test_vectors.md start. -/
def Config.initPC : Word := 0x0200

/-- SP at reset, the default the spec offers (R26, R271). DESIGN CHOICE (log 2), unsafe. -/
def Config.initSP : Byte := 0xFF

end Sys2Proof
end

