-- ==== Sys2Proof/Syntax.lean ====
section
/-! DEFINITION. The instruction set as syntax: the 56 mnemonics, the 13 addressing modes (20_memory.md R50), and Instr
with one constructor for each of the 151 legal (mnemonic, mode) pairs (30_encoding.md R87, R88, R93). -/

namespace Sys2Proof

/-- The 56 mnemonics (R92), in the order of the family files. -/
inductive Mnemonic where
  | ADC | SBC 
  | AND | ORA | EOR 
  | ASL | LSR | ROL | ROR 
  | CMP | CPX | CPY 
  | INC | DEC | INX | INY | DEX | DEY 
  | TAX | TXA | TAY | TYA | TSX | TXS 
  | PHA | PLA | PHP | PLP | JSR | RTS | RTI 
  | BPL | BMI | BVC | BVS | BCC | BCS | BNE | BEQ | JMP 
  | CLC | SEC | CLI | SEI | CLV | CLD | SED | BIT | NOP | BRK 
  | LDA | LDX | LDY | STA | STX | STY 
  deriving DecidableEq, Repr

/-- The variants of an addressing mode without their operand (R50, R92). -/
inductive ModeKind where
  | implied | accumulator | immediate | zeroPage | zeroPageX | zeroPageY | absolute | absoluteX | absoluteY
  | indirect | indexedIndirect | indirectIndexed | relative
  deriving DecidableEq, Repr

/-- The encoded length of a mode: 0, 1 or 2 operand bytes (R50). -/
def ModeKind.len : ModeKind → Nat
  | .implied => 0
  | .accumulator => 0
  | .immediate => 1
  | .zeroPage => 1
  | .zeroPageX => 1
  | .zeroPageY => 1
  | .absolute => 2
  | .absoluteX => 2
  | .absoluteY => 2
  | .indirect => 2
  | .indexedIndirect => 1
  | .indirectIndexed => 1
  | .relative => 1

/-- A mode value: the variant with the operand captured at decode time (R50). -/
inductive Mode where
  | implied
  | accumulator
  | immediate (b : Byte)
  | zeroPage (b : Byte)
  | zeroPageX (b : Byte)
  | zeroPageY (b : Byte)
  | absolute (w : Word)
  | absoluteX (w : Word)
  | absoluteY (w : Word)
  | indirect (w : Word)
  | indexedIndirect (b : Byte)
  | indirectIndexed (b : Byte)
  | relative (b : Byte)
  deriving DecidableEq, Repr

/-- The variant of a mode value. -/
def Mode.kind : Mode → ModeKind
  | .implied => .implied
  | .accumulator => .accumulator
  | .immediate _ => .immediate
  | .zeroPage _ => .zeroPage
  | .zeroPageX _ => .zeroPageX
  | .zeroPageY _ => .zeroPageY
  | .absolute _ => .absolute
  | .absoluteX _ => .absoluteX
  | .absoluteY _ => .absoluteY
  | .indirect _ => .indirect
  | .indexedIndirect _ => .indexedIndirect
  | .indirectIndexed _ => .indirectIndexed
  | .relative _ => .relative

/-- `len(mode)` of R8: how many operand bytes the mode has. -/
def Mode.len (m : Mode) : Nat := m.kind.len

/-- An instruction: a legal pair of mnemonic and mode with its captured operand (R87). One constructor per row of
spec/opcode_table.json, so an illegal pair cannot be constructed (R88, 10_state.md R27c). -/
inductive Instr where
  -- ADC: 40_arithmetic.md R110
  | adcImm (b : Byte) | adcZp (b : Byte) | adcZpx (b : Byte) | adcAbs (w : Word) | adcAbsx (w : Word)
  | adcAbsy (w : Word) | adcIndx (b : Byte) | adcIndy (b : Byte)
  -- SBC: 40_arithmetic.md R111
  | sbcImm (b : Byte) | sbcZp (b : Byte) | sbcZpx (b : Byte) | sbcAbs (w : Word) | sbcAbsx (w : Word)
  | sbcAbsy (w : Word) | sbcIndx (b : Byte) | sbcIndy (b : Byte)
  -- AND: 41_logical.md R120
  | andImm (b : Byte) | andZp (b : Byte) | andZpx (b : Byte) | andAbs (w : Word) | andAbsx (w : Word)
  | andAbsy (w : Word) | andIndx (b : Byte) | andIndy (b : Byte)
  -- ORA: 41_logical.md R121
  | oraImm (b : Byte) | oraZp (b : Byte) | oraZpx (b : Byte) | oraAbs (w : Word) | oraAbsx (w : Word)
  | oraAbsy (w : Word) | oraIndx (b : Byte) | oraIndy (b : Byte)
  -- EOR: 41_logical.md R122
  | eorImm (b : Byte) | eorZp (b : Byte) | eorZpx (b : Byte) | eorAbs (w : Word) | eorAbsx (w : Word)
  | eorAbsy (w : Word) | eorIndx (b : Byte) | eorIndy (b : Byte)
  -- ASL: 42_shift_rotate.md R130
  | aslAcc | aslZp (b : Byte) | aslZpx (b : Byte) | aslAbs (w : Word) | aslAbsx (w : Word)
  -- LSR: 42_shift_rotate.md R131
  | lsrAcc | lsrZp (b : Byte) | lsrZpx (b : Byte) | lsrAbs (w : Word) | lsrAbsx (w : Word)
  -- ROL: 42_shift_rotate.md R132
  | rolAcc | rolZp (b : Byte) | rolZpx (b : Byte) | rolAbs (w : Word) | rolAbsx (w : Word)
  -- ROR: 42_shift_rotate.md R133
  | rorAcc | rorZp (b : Byte) | rorZpx (b : Byte) | rorAbs (w : Word) | rorAbsx (w : Word)
  -- CMP: 43_compare.md R140
  | cmpImm (b : Byte) | cmpZp (b : Byte) | cmpZpx (b : Byte) | cmpAbs (w : Word) | cmpAbsx (w : Word)
  | cmpAbsy (w : Word) | cmpIndx (b : Byte) | cmpIndy (b : Byte)
  -- CPX: 43_compare.md R141
  | cpxImm (b : Byte) | cpxZp (b : Byte) | cpxAbs (w : Word)
  -- CPY: 43_compare.md R142
  | cpyImm (b : Byte) | cpyZp (b : Byte) | cpyAbs (w : Word)
  -- INC: 44_incdec.md R150
  | incZp (b : Byte) | incZpx (b : Byte) | incAbs (w : Word) | incAbsx (w : Word)
  -- DEC: 44_incdec.md R151
  | decZp (b : Byte) | decZpx (b : Byte) | decAbs (w : Word) | decAbsx (w : Word)
  -- INX: 44_incdec.md R152
  | inx
  -- INY: 44_incdec.md R153
  | iny
  -- DEX: 44_incdec.md R154
  | dex
  -- DEY: 44_incdec.md R155
  | dey
  -- TAX: 45_transfer.md R160
  | tax
  -- TXA: 45_transfer.md R161
  | txa
  -- TAY: 45_transfer.md R162
  | tay
  -- TYA: 45_transfer.md R163
  | tya
  -- TSX: 45_transfer.md R164
  | tsx
  -- TXS: 45_transfer.md R165
  | txs
  -- PHA: 46_stack_subroutine.md R170
  | pha
  -- PLA: 46_stack_subroutine.md R171
  | pla
  -- PHP: 46_stack_subroutine.md R172
  | php
  -- PLP: 46_stack_subroutine.md R173
  | plp
  -- JSR: 46_stack_subroutine.md R174
  | jsr (w : Word)
  -- RTS: 46_stack_subroutine.md R175
  | rts
  -- RTI: 46_stack_subroutine.md R176
  | rti
  -- BPL: 47_branch_jump.md R191
  | bpl (b : Byte)
  -- BMI: 47_branch_jump.md R192
  | bmi (b : Byte)
  -- BVC: 47_branch_jump.md R193
  | bvc (b : Byte)
  -- BVS: 47_branch_jump.md R194
  | bvs (b : Byte)
  -- BCC: 47_branch_jump.md R195
  | bcc (b : Byte)
  -- BCS: 47_branch_jump.md R196
  | bcs (b : Byte)
  -- BNE: 47_branch_jump.md R197
  | bne (b : Byte)
  -- BEQ: 47_branch_jump.md R198
  | beq (b : Byte)
  -- JMP: 47_branch_jump.md R199
  | jmpAbs (w : Word) | jmpInd (w : Word)
  -- CLC: 48_flag_bit_nop.md R210
  | clc
  -- SEC: 48_flag_bit_nop.md R211
  | sec
  -- CLI: 48_flag_bit_nop.md R212
  | cli
  -- SEI: 48_flag_bit_nop.md R213
  | sei
  -- CLV: 48_flag_bit_nop.md R214
  | clv
  -- CLD: 48_flag_bit_nop.md R215
  | cld
  -- SED: 48_flag_bit_nop.md R216
  | sed
  -- BIT: 48_flag_bit_nop.md R217
  | bitZp (b : Byte) | bitAbs (w : Word)
  -- NOP: 48_flag_bit_nop.md R218
  | nop
  -- BRK: 48_flag_bit_nop.md R219
  | brk
  -- LDA: 49_load_store.md R230
  | ldaImm (b : Byte) | ldaZp (b : Byte) | ldaZpx (b : Byte) | ldaAbs (w : Word) | ldaAbsx (w : Word)
  | ldaAbsy (w : Word) | ldaIndx (b : Byte) | ldaIndy (b : Byte)
  -- LDX: 49_load_store.md R231
  | ldxImm (b : Byte) | ldxZp (b : Byte) | ldxZpy (b : Byte) | ldxAbs (w : Word) | ldxAbsy (w : Word)
  -- LDY: 49_load_store.md R232
  | ldyImm (b : Byte) | ldyZp (b : Byte) | ldyZpx (b : Byte) | ldyAbs (w : Word) | ldyAbsx (w : Word)
  -- STA: 49_load_store.md R233
  | staZp (b : Byte) | staZpx (b : Byte) | staAbs (w : Word) | staAbsx (w : Word) | staAbsy (w : Word)
  | staIndx (b : Byte) | staIndy (b : Byte)
  -- STX: 49_load_store.md R234
  | stxZp (b : Byte) | stxZpy (b : Byte) | stxAbs (w : Word)
  -- STY: 49_load_store.md R235
  | styZp (b : Byte) | styZpx (b : Byte) | styAbs (w : Word)
  deriving DecidableEq, Repr

/-- The mnemonic of an instruction: the first half of the pair of R87. -/
def Instr.mnemonic : Instr → Mnemonic
  | .adcImm _ | .adcZp _ | .adcZpx _ | .adcAbs _ | .adcAbsx _ | .adcAbsy _ | .adcIndx _ | .adcIndy _ => .ADC
  | .sbcImm _ | .sbcZp _ | .sbcZpx _ | .sbcAbs _ | .sbcAbsx _ | .sbcAbsy _ | .sbcIndx _ | .sbcIndy _ => .SBC
  | .andImm _ | .andZp _ | .andZpx _ | .andAbs _ | .andAbsx _ | .andAbsy _ | .andIndx _ | .andIndy _ => .AND
  | .oraImm _ | .oraZp _ | .oraZpx _ | .oraAbs _ | .oraAbsx _ | .oraAbsy _ | .oraIndx _ | .oraIndy _ => .ORA
  | .eorImm _ | .eorZp _ | .eorZpx _ | .eorAbs _ | .eorAbsx _ | .eorAbsy _ | .eorIndx _ | .eorIndy _ => .EOR
  | .aslAcc | .aslZp _ | .aslZpx _ | .aslAbs _ | .aslAbsx _ => .ASL
  | .lsrAcc | .lsrZp _ | .lsrZpx _ | .lsrAbs _ | .lsrAbsx _ => .LSR
  | .rolAcc | .rolZp _ | .rolZpx _ | .rolAbs _ | .rolAbsx _ => .ROL
  | .rorAcc | .rorZp _ | .rorZpx _ | .rorAbs _ | .rorAbsx _ => .ROR
  | .cmpImm _ | .cmpZp _ | .cmpZpx _ | .cmpAbs _ | .cmpAbsx _ | .cmpAbsy _ | .cmpIndx _ | .cmpIndy _ => .CMP
  | .cpxImm _ | .cpxZp _ | .cpxAbs _ => .CPX
  | .cpyImm _ | .cpyZp _ | .cpyAbs _ => .CPY
  | .incZp _ | .incZpx _ | .incAbs _ | .incAbsx _ => .INC
  | .decZp _ | .decZpx _ | .decAbs _ | .decAbsx _ => .DEC
  | .inx => .INX
  | .iny => .INY
  | .dex => .DEX
  | .dey => .DEY
  | .tax => .TAX
  | .txa => .TXA
  | .tay => .TAY
  | .tya => .TYA
  | .tsx => .TSX
  | .txs => .TXS
  | .pha => .PHA
  | .pla => .PLA
  | .php => .PHP
  | .plp => .PLP
  | .jsr _ => .JSR
  | .rts => .RTS
  | .rti => .RTI
  | .bpl _ => .BPL
  | .bmi _ => .BMI
  | .bvc _ => .BVC
  | .bvs _ => .BVS
  | .bcc _ => .BCC
  | .bcs _ => .BCS
  | .bne _ => .BNE
  | .beq _ => .BEQ
  | .jmpAbs _ | .jmpInd _ => .JMP
  | .clc => .CLC
  | .sec => .SEC
  | .cli => .CLI
  | .sei => .SEI
  | .clv => .CLV
  | .cld => .CLD
  | .sed => .SED
  | .bitZp _ | .bitAbs _ => .BIT
  | .nop => .NOP
  | .brk => .BRK
  | .ldaImm _ | .ldaZp _ | .ldaZpx _ | .ldaAbs _ | .ldaAbsx _ | .ldaAbsy _ | .ldaIndx _ | .ldaIndy _ => .LDA
  | .ldxImm _ | .ldxZp _ | .ldxZpy _ | .ldxAbs _ | .ldxAbsy _ => .LDX
  | .ldyImm _ | .ldyZp _ | .ldyZpx _ | .ldyAbs _ | .ldyAbsx _ => .LDY
  | .staZp _ | .staZpx _ | .staAbs _ | .staAbsx _ | .staAbsy _ | .staIndx _ | .staIndy _ => .STA
  | .stxZp _ | .stxZpy _ | .stxAbs _ => .STX
  | .styZp _ | .styZpx _ | .styAbs _ => .STY

/-- The mode value of an instruction: the second half of the pair of R87. -/
def Instr.mode : Instr → Mode
  | .adcImm b => .immediate b
  | .adcZp b => .zeroPage b
  | .adcZpx b => .zeroPageX b
  | .adcAbs w => .absolute w
  | .adcAbsx w => .absoluteX w
  | .adcAbsy w => .absoluteY w
  | .adcIndx b => .indexedIndirect b
  | .adcIndy b => .indirectIndexed b
  | .sbcImm b => .immediate b
  | .sbcZp b => .zeroPage b
  | .sbcZpx b => .zeroPageX b
  | .sbcAbs w => .absolute w
  | .sbcAbsx w => .absoluteX w
  | .sbcAbsy w => .absoluteY w
  | .sbcIndx b => .indexedIndirect b
  | .sbcIndy b => .indirectIndexed b
  | .andImm b => .immediate b
  | .andZp b => .zeroPage b
  | .andZpx b => .zeroPageX b
  | .andAbs w => .absolute w
  | .andAbsx w => .absoluteX w
  | .andAbsy w => .absoluteY w
  | .andIndx b => .indexedIndirect b
  | .andIndy b => .indirectIndexed b
  | .oraImm b => .immediate b
  | .oraZp b => .zeroPage b
  | .oraZpx b => .zeroPageX b
  | .oraAbs w => .absolute w
  | .oraAbsx w => .absoluteX w
  | .oraAbsy w => .absoluteY w
  | .oraIndx b => .indexedIndirect b
  | .oraIndy b => .indirectIndexed b
  | .eorImm b => .immediate b
  | .eorZp b => .zeroPage b
  | .eorZpx b => .zeroPageX b
  | .eorAbs w => .absolute w
  | .eorAbsx w => .absoluteX w
  | .eorAbsy w => .absoluteY w
  | .eorIndx b => .indexedIndirect b
  | .eorIndy b => .indirectIndexed b
  | .aslAcc => .accumulator
  | .aslZp b => .zeroPage b
  | .aslZpx b => .zeroPageX b
  | .aslAbs w => .absolute w
  | .aslAbsx w => .absoluteX w
  | .lsrAcc => .accumulator
  | .lsrZp b => .zeroPage b
  | .lsrZpx b => .zeroPageX b
  | .lsrAbs w => .absolute w
  | .lsrAbsx w => .absoluteX w
  | .rolAcc => .accumulator
  | .rolZp b => .zeroPage b
  | .rolZpx b => .zeroPageX b
  | .rolAbs w => .absolute w
  | .rolAbsx w => .absoluteX w
  | .rorAcc => .accumulator
  | .rorZp b => .zeroPage b
  | .rorZpx b => .zeroPageX b
  | .rorAbs w => .absolute w
  | .rorAbsx w => .absoluteX w
  | .cmpImm b => .immediate b
  | .cmpZp b => .zeroPage b
  | .cmpZpx b => .zeroPageX b
  | .cmpAbs w => .absolute w
  | .cmpAbsx w => .absoluteX w
  | .cmpAbsy w => .absoluteY w
  | .cmpIndx b => .indexedIndirect b
  | .cmpIndy b => .indirectIndexed b
  | .cpxImm b => .immediate b
  | .cpxZp b => .zeroPage b
  | .cpxAbs w => .absolute w
  | .cpyImm b => .immediate b
  | .cpyZp b => .zeroPage b
  | .cpyAbs w => .absolute w
  | .incZp b => .zeroPage b
  | .incZpx b => .zeroPageX b
  | .incAbs w => .absolute w
  | .incAbsx w => .absoluteX w
  | .decZp b => .zeroPage b
  | .decZpx b => .zeroPageX b
  | .decAbs w => .absolute w
  | .decAbsx w => .absoluteX w
  | .inx => .implied
  | .iny => .implied
  | .dex => .implied
  | .dey => .implied
  | .tax => .implied
  | .txa => .implied
  | .tay => .implied
  | .tya => .implied
  | .tsx => .implied
  | .txs => .implied
  | .pha => .implied
  | .pla => .implied
  | .php => .implied
  | .plp => .implied
  | .jsr w => .absolute w
  | .rts => .implied
  | .rti => .implied
  | .bpl b => .relative b
  | .bmi b => .relative b
  | .bvc b => .relative b
  | .bvs b => .relative b
  | .bcc b => .relative b
  | .bcs b => .relative b
  | .bne b => .relative b
  | .beq b => .relative b
  | .jmpAbs w => .absolute w
  | .jmpInd w => .indirect w
  | .clc => .implied
  | .sec => .implied
  | .cli => .implied
  | .sei => .implied
  | .clv => .implied
  | .cld => .implied
  | .sed => .implied
  | .bitZp b => .zeroPage b
  | .bitAbs w => .absolute w
  | .nop => .implied
  | .brk => .implied
  | .ldaImm b => .immediate b
  | .ldaZp b => .zeroPage b
  | .ldaZpx b => .zeroPageX b
  | .ldaAbs w => .absolute w
  | .ldaAbsx w => .absoluteX w
  | .ldaAbsy w => .absoluteY w
  | .ldaIndx b => .indexedIndirect b
  | .ldaIndy b => .indirectIndexed b
  | .ldxImm b => .immediate b
  | .ldxZp b => .zeroPage b
  | .ldxZpy b => .zeroPageY b
  | .ldxAbs w => .absolute w
  | .ldxAbsy w => .absoluteY w
  | .ldyImm b => .immediate b
  | .ldyZp b => .zeroPage b
  | .ldyZpx b => .zeroPageX b
  | .ldyAbs w => .absolute w
  | .ldyAbsx w => .absoluteX w
  | .staZp b => .zeroPage b
  | .staZpx b => .zeroPageX b
  | .staAbs w => .absolute w
  | .staAbsx w => .absoluteX w
  | .staAbsy w => .absoluteY w
  | .staIndx b => .indexedIndirect b
  | .staIndy b => .indirectIndexed b
  | .stxZp b => .zeroPage b
  | .stxZpy b => .zeroPageY b
  | .stxAbs w => .absolute w
  | .styZp b => .zeroPage b
  | .styZpx b => .zeroPageX b
  | .styAbs w => .absolute w

end Sys2Proof
end

