-- ==== Sys2Proof/WellFormed.lean ====
section
/-! DEFINITION. Legality of a (mnemonic, mode) pair (30_encoding.md R88): which modes each mnemonic supports, from the
rows of R93 and the Operands lines of files 40 to 49. Every term of Instr is legal, because Instr has no other
constructors (log 9); the check is about pairs, which is where an illegal one can be written down. -/

namespace Sys2Proof

/-- The modes a mnemonic supports (R88). -/
def legalKinds : Mnemonic → List ModeKind
  | .ADC => [.immediate, .zeroPage, .zeroPageX, .absolute, .absoluteX, .absoluteY, .indexedIndirect, .indirectIndexed]
  | .SBC => [.immediate, .zeroPage, .zeroPageX, .absolute, .absoluteX, .absoluteY, .indexedIndirect, .indirectIndexed]
  | .AND => [.immediate, .zeroPage, .zeroPageX, .absolute, .absoluteX, .absoluteY, .indexedIndirect, .indirectIndexed]
  | .ORA => [.immediate, .zeroPage, .zeroPageX, .absolute, .absoluteX, .absoluteY, .indexedIndirect, .indirectIndexed]
  | .EOR => [.immediate, .zeroPage, .zeroPageX, .absolute, .absoluteX, .absoluteY, .indexedIndirect, .indirectIndexed]
  | .ASL => [.accumulator, .zeroPage, .zeroPageX, .absolute, .absoluteX]
  | .LSR => [.accumulator, .zeroPage, .zeroPageX, .absolute, .absoluteX]
  | .ROL => [.accumulator, .zeroPage, .zeroPageX, .absolute, .absoluteX]
  | .ROR => [.accumulator, .zeroPage, .zeroPageX, .absolute, .absoluteX]
  | .CMP => [.immediate, .zeroPage, .zeroPageX, .absolute, .absoluteX, .absoluteY, .indexedIndirect, .indirectIndexed]
  | .CPX => [.immediate, .zeroPage, .absolute]
  | .CPY => [.immediate, .zeroPage, .absolute]
  | .INC => [.zeroPage, .zeroPageX, .absolute, .absoluteX]
  | .DEC => [.zeroPage, .zeroPageX, .absolute, .absoluteX]
  | .INX => [.implied]
  | .INY => [.implied]
  | .DEX => [.implied]
  | .DEY => [.implied]
  | .TAX => [.implied]
  | .TXA => [.implied]
  | .TAY => [.implied]
  | .TYA => [.implied]
  | .TSX => [.implied]
  | .TXS => [.implied]
  | .PHA => [.implied]
  | .PLA => [.implied]
  | .PHP => [.implied]
  | .PLP => [.implied]
  | .JSR => [.absolute]
  | .RTS => [.implied]
  | .RTI => [.implied]
  | .BPL => [.relative]
  | .BMI => [.relative]
  | .BVC => [.relative]
  | .BVS => [.relative]
  | .BCC => [.relative]
  | .BCS => [.relative]
  | .BNE => [.relative]
  | .BEQ => [.relative]
  | .JMP => [.absolute, .indirect]
  | .CLC => [.implied]
  | .SEC => [.implied]
  | .CLI => [.implied]
  | .SEI => [.implied]
  | .CLV => [.implied]
  | .CLD => [.implied]
  | .SED => [.implied]
  | .BIT => [.zeroPage, .absolute]
  | .NOP => [.implied]
  | .BRK => [.implied]
  | .LDA => [.immediate, .zeroPage, .zeroPageX, .absolute, .absoluteX, .absoluteY, .indexedIndirect, .indirectIndexed]
  | .LDX => [.immediate, .zeroPage, .zeroPageY, .absolute, .absoluteY]
  | .LDY => [.immediate, .zeroPage, .zeroPageX, .absolute, .absoluteX]
  | .STA => [.zeroPage, .zeroPageX, .absolute, .absoluteX, .absoluteY, .indexedIndirect, .indirectIndexed]
  | .STX => [.zeroPage, .zeroPageY, .absolute]
  | .STY => [.zeroPage, .zeroPageX, .absolute]

/-- Is the pair of a mnemonic and a mode in the legality table of R88? -/
def legalPair (mn : Mnemonic) (m : Mode) : Bool := (legalKinds mn).contains m.kind

/-- Is the instruction a legal pair (10_state.md R27c)? -/
def Instr.wellFormed (i : Instr) : Bool := legalPair i.mnemonic i.mode

end Sys2Proof
end

