-- ==== Sys2Proof/Decode.lean ====
section
/-! DEFINITION. The decoder (30_encoding.md R80 to R87, R92 to R97) and the encoder (R89 to R91). The decoder's table is
the 16 by 16 matrix of R94; the encoder's opcodes are the rows of R93; the spec says the two agree cell for cell. -/

namespace Sys2Proof

/-- `{hi, lo}` of R8: the 16-bit value of two bytes. -/
def concat (hi lo : Byte) : Word := hi ++ lo

/-- The low byte `w[7:0]` (R8). -/
def lowByte (w : Word) : Byte := w.extractLsb' 0 8

/-- The high byte `w[15:8]` (R8). -/
def highByte (w : Word) : Byte := w.extractLsb' 8 8

/-- A cell of the opcode matrix: a legal pair, or an illegal opcode. -/
abbrev OpcodeCell := Option (Mnemonic × ModeKind)

/-- Row 0 of R94: opcodes 00 to 0F. -/
def matrixRow0 : List OpcodeCell :=
  [some (.BRK, .implied), some (.ORA, .indexedIndirect), none, none,
   none, some (.ORA, .zeroPage), some (.ASL, .zeroPage), none,
   some (.PHP, .implied), some (.ORA, .immediate), some (.ASL, .accumulator), none,
   none, some (.ORA, .absolute), some (.ASL, .absolute), none]

/-- Row 1 of R94: opcodes 10 to 1F. -/
def matrixRow1 : List OpcodeCell :=
  [some (.BPL, .relative), some (.ORA, .indirectIndexed), none, none,
   none, some (.ORA, .zeroPageX), some (.ASL, .zeroPageX), none,
   some (.CLC, .implied), some (.ORA, .absoluteY), none, none,
   none, some (.ORA, .absoluteX), some (.ASL, .absoluteX), none]

/-- Row 2 of R94: opcodes 20 to 2F. -/
def matrixRow2 : List OpcodeCell :=
  [some (.JSR, .absolute), some (.AND, .indexedIndirect), none, none,
   some (.BIT, .zeroPage), some (.AND, .zeroPage), some (.ROL, .zeroPage), none,
   some (.PLP, .implied), some (.AND, .immediate), some (.ROL, .accumulator), none,
   some (.BIT, .absolute), some (.AND, .absolute), some (.ROL, .absolute), none]

/-- Row 3 of R94: opcodes 30 to 3F. -/
def matrixRow3 : List OpcodeCell :=
  [some (.BMI, .relative), some (.AND, .indirectIndexed), none, none,
   none, some (.AND, .zeroPageX), some (.ROL, .zeroPageX), none,
   some (.SEC, .implied), some (.AND, .absoluteY), none, none,
   none, some (.AND, .absoluteX), some (.ROL, .absoluteX), none]

/-- Row 4 of R94: opcodes 40 to 4F. -/
def matrixRow4 : List OpcodeCell :=
  [some (.RTI, .implied), some (.EOR, .indexedIndirect), none, none,
   none, some (.EOR, .zeroPage), some (.LSR, .zeroPage), none,
   some (.PHA, .implied), some (.EOR, .immediate), some (.LSR, .accumulator), none,
   some (.JMP, .absolute), some (.EOR, .absolute), some (.LSR, .absolute), none]

/-- Row 5 of R94: opcodes 50 to 5F. -/
def matrixRow5 : List OpcodeCell :=
  [some (.BVC, .relative), some (.EOR, .indirectIndexed), none, none,
   none, some (.EOR, .zeroPageX), some (.LSR, .zeroPageX), none,
   some (.CLI, .implied), some (.EOR, .absoluteY), none, none,
   none, some (.EOR, .absoluteX), some (.LSR, .absoluteX), none]

/-- Row 6 of R94: opcodes 60 to 6F. -/
def matrixRow6 : List OpcodeCell :=
  [some (.RTS, .implied), some (.ADC, .indexedIndirect), none, none,
   none, some (.ADC, .zeroPage), some (.ROR, .zeroPage), none,
   some (.PLA, .implied), some (.ADC, .immediate), some (.ROR, .accumulator), none,
   some (.JMP, .indirect), some (.ADC, .absolute), some (.ROR, .absolute), none]

/-- Row 7 of R94: opcodes 70 to 7F. -/
def matrixRow7 : List OpcodeCell :=
  [some (.BVS, .relative), some (.ADC, .indirectIndexed), none, none,
   none, some (.ADC, .zeroPageX), some (.ROR, .zeroPageX), none,
   some (.SEI, .implied), some (.ADC, .absoluteY), none, none,
   none, some (.ADC, .absoluteX), some (.ROR, .absoluteX), none]

/-- Row 8 of R94: opcodes 80 to 8F. -/
def matrixRow8 : List OpcodeCell :=
  [none, some (.STA, .indexedIndirect), none, none,
   some (.STY, .zeroPage), some (.STA, .zeroPage), some (.STX, .zeroPage), none,
   some (.DEY, .implied), none, some (.TXA, .implied), none,
   some (.STY, .absolute), some (.STA, .absolute), some (.STX, .absolute), none]

/-- Row 9 of R94: opcodes 90 to 9F. -/
def matrixRow9 : List OpcodeCell :=
  [some (.BCC, .relative), some (.STA, .indirectIndexed), none, none,
   some (.STY, .zeroPageX), some (.STA, .zeroPageX), some (.STX, .zeroPageY), none,
   some (.TYA, .implied), some (.STA, .absoluteY), some (.TXS, .implied), none,
   none, some (.STA, .absoluteX), none, none]

/-- Row A of R94: opcodes A0 to AF. -/
def matrixRowA : List OpcodeCell :=
  [some (.LDY, .immediate), some (.LDA, .indexedIndirect), some (.LDX, .immediate), none,
   some (.LDY, .zeroPage), some (.LDA, .zeroPage), some (.LDX, .zeroPage), none,
   some (.TAY, .implied), some (.LDA, .immediate), some (.TAX, .implied), none,
   some (.LDY, .absolute), some (.LDA, .absolute), some (.LDX, .absolute), none]

/-- Row B of R94: opcodes B0 to BF. -/
def matrixRowB : List OpcodeCell :=
  [some (.BCS, .relative), some (.LDA, .indirectIndexed), none, none,
   some (.LDY, .zeroPageX), some (.LDA, .zeroPageX), some (.LDX, .zeroPageY), none,
   some (.CLV, .implied), some (.LDA, .absoluteY), some (.TSX, .implied), none,
   some (.LDY, .absoluteX), some (.LDA, .absoluteX), some (.LDX, .absoluteY), none]

/-- Row C of R94: opcodes C0 to CF. -/
def matrixRowC : List OpcodeCell :=
  [some (.CPY, .immediate), some (.CMP, .indexedIndirect), none, none,
   some (.CPY, .zeroPage), some (.CMP, .zeroPage), some (.DEC, .zeroPage), none,
   some (.INY, .implied), some (.CMP, .immediate), some (.DEX, .implied), none,
   some (.CPY, .absolute), some (.CMP, .absolute), some (.DEC, .absolute), none]

/-- Row D of R94: opcodes D0 to DF. -/
def matrixRowD : List OpcodeCell :=
  [some (.BNE, .relative), some (.CMP, .indirectIndexed), none, none,
   none, some (.CMP, .zeroPageX), some (.DEC, .zeroPageX), none,
   some (.CLD, .implied), some (.CMP, .absoluteY), none, none,
   none, some (.CMP, .absoluteX), some (.DEC, .absoluteX), none]

/-- Row E of R94: opcodes E0 to EF. -/
def matrixRowE : List OpcodeCell :=
  [some (.CPX, .immediate), some (.SBC, .indexedIndirect), none, none,
   some (.CPX, .zeroPage), some (.SBC, .zeroPage), some (.INC, .zeroPage), none,
   some (.INX, .implied), some (.SBC, .immediate), some (.NOP, .implied), none,
   some (.CPX, .absolute), some (.SBC, .absolute), some (.INC, .absolute), none]

/-- Row F of R94: opcodes F0 to FF. -/
def matrixRowF : List OpcodeCell :=
  [some (.BEQ, .relative), some (.SBC, .indirectIndexed), none, none,
   none, some (.SBC, .zeroPageX), some (.INC, .zeroPageX), none,
   some (.SED, .implied), some (.SBC, .absoluteY), none, none,
   none, some (.SBC, .absoluteX), some (.INC, .absoluteX), none]

/-- The opcode matrix of R94. -/
def opcodeMatrix : List (List OpcodeCell) :=
  [matrixRow0, matrixRow1, matrixRow2, matrixRow3, matrixRow4, matrixRow5, matrixRow6, matrixRow7,
   matrixRow8, matrixRow9, matrixRowA, matrixRowB, matrixRowC, matrixRowD, matrixRowE, matrixRowF]

/-- The cell of an opcode byte: row = high nibble, column = low nibble (R94); none for an illegal opcode (R96). -/
def opcodeCell (op : Byte) : OpcodeCell :=
  ((opcodeMatrix.getD (op.toNat / 16) []).getD (op.toNat % 16) none)

/-- The mode value of a variant, from the operand bytes 1 and 2 (R82, R84): `kind`, `kind(b)` or `kind({b2, b1})`. -/
def modeOfBytes (k : ModeKind) (b1 b2 : Byte) : Mode :=
  match k with
  | .implied => .implied
  | .accumulator => .accumulator
  | .immediate => .immediate b1
  | .zeroPage => .zeroPage b1
  | .zeroPageX => .zeroPageX b1
  | .zeroPageY => .zeroPageY b1
  | .absolute => .absolute (concat b2 b1)
  | .absoluteX => .absoluteX (concat b2 b1)
  | .absoluteY => .absoluteY (concat b2 b1)
  | .indirect => .indirect (concat b2 b1)
  | .indexedIndirect => .indexedIndirect b1
  | .indirectIndexed => .indirectIndexed b1
  | .relative => .relative b1

/-- The instruction of a legal pair; none for a pair the legality table of R88 does not hold. -/
def instrOfPair (mn : Mnemonic) (m : Mode) : Option Instr :=
  match mn with
  | .ADC =>
    match m with
    | .immediate b => some (.adcImm b)
    | .zeroPage b => some (.adcZp b)
    | .zeroPageX b => some (.adcZpx b)
    | .absolute w => some (.adcAbs w)
    | .absoluteX w => some (.adcAbsx w)
    | .absoluteY w => some (.adcAbsy w)
    | .indexedIndirect b => some (.adcIndx b)
    | .indirectIndexed b => some (.adcIndy b)
    | _ => none
  | .SBC =>
    match m with
    | .immediate b => some (.sbcImm b)
    | .zeroPage b => some (.sbcZp b)
    | .zeroPageX b => some (.sbcZpx b)
    | .absolute w => some (.sbcAbs w)
    | .absoluteX w => some (.sbcAbsx w)
    | .absoluteY w => some (.sbcAbsy w)
    | .indexedIndirect b => some (.sbcIndx b)
    | .indirectIndexed b => some (.sbcIndy b)
    | _ => none
  | .AND =>
    match m with
    | .immediate b => some (.andImm b)
    | .zeroPage b => some (.andZp b)
    | .zeroPageX b => some (.andZpx b)
    | .absolute w => some (.andAbs w)
    | .absoluteX w => some (.andAbsx w)
    | .absoluteY w => some (.andAbsy w)
    | .indexedIndirect b => some (.andIndx b)
    | .indirectIndexed b => some (.andIndy b)
    | _ => none
  | .ORA =>
    match m with
    | .immediate b => some (.oraImm b)
    | .zeroPage b => some (.oraZp b)
    | .zeroPageX b => some (.oraZpx b)
    | .absolute w => some (.oraAbs w)
    | .absoluteX w => some (.oraAbsx w)
    | .absoluteY w => some (.oraAbsy w)
    | .indexedIndirect b => some (.oraIndx b)
    | .indirectIndexed b => some (.oraIndy b)
    | _ => none
  | .EOR =>
    match m with
    | .immediate b => some (.eorImm b)
    | .zeroPage b => some (.eorZp b)
    | .zeroPageX b => some (.eorZpx b)
    | .absolute w => some (.eorAbs w)
    | .absoluteX w => some (.eorAbsx w)
    | .absoluteY w => some (.eorAbsy w)
    | .indexedIndirect b => some (.eorIndx b)
    | .indirectIndexed b => some (.eorIndy b)
    | _ => none
  | .ASL =>
    match m with
    | .accumulator => some .aslAcc
    | .zeroPage b => some (.aslZp b)
    | .zeroPageX b => some (.aslZpx b)
    | .absolute w => some (.aslAbs w)
    | .absoluteX w => some (.aslAbsx w)
    | _ => none
  | .LSR =>
    match m with
    | .accumulator => some .lsrAcc
    | .zeroPage b => some (.lsrZp b)
    | .zeroPageX b => some (.lsrZpx b)
    | .absolute w => some (.lsrAbs w)
    | .absoluteX w => some (.lsrAbsx w)
    | _ => none
  | .ROL =>
    match m with
    | .accumulator => some .rolAcc
    | .zeroPage b => some (.rolZp b)
    | .zeroPageX b => some (.rolZpx b)
    | .absolute w => some (.rolAbs w)
    | .absoluteX w => some (.rolAbsx w)
    | _ => none
  | .ROR =>
    match m with
    | .accumulator => some .rorAcc
    | .zeroPage b => some (.rorZp b)
    | .zeroPageX b => some (.rorZpx b)
    | .absolute w => some (.rorAbs w)
    | .absoluteX w => some (.rorAbsx w)
    | _ => none
  | .CMP =>
    match m with
    | .immediate b => some (.cmpImm b)
    | .zeroPage b => some (.cmpZp b)
    | .zeroPageX b => some (.cmpZpx b)
    | .absolute w => some (.cmpAbs w)
    | .absoluteX w => some (.cmpAbsx w)
    | .absoluteY w => some (.cmpAbsy w)
    | .indexedIndirect b => some (.cmpIndx b)
    | .indirectIndexed b => some (.cmpIndy b)
    | _ => none
  | .CPX =>
    match m with
    | .immediate b => some (.cpxImm b)
    | .zeroPage b => some (.cpxZp b)
    | .absolute w => some (.cpxAbs w)
    | _ => none
  | .CPY =>
    match m with
    | .immediate b => some (.cpyImm b)
    | .zeroPage b => some (.cpyZp b)
    | .absolute w => some (.cpyAbs w)
    | _ => none
  | .INC =>
    match m with
    | .zeroPage b => some (.incZp b)
    | .zeroPageX b => some (.incZpx b)
    | .absolute w => some (.incAbs w)
    | .absoluteX w => some (.incAbsx w)
    | _ => none
  | .DEC =>
    match m with
    | .zeroPage b => some (.decZp b)
    | .zeroPageX b => some (.decZpx b)
    | .absolute w => some (.decAbs w)
    | .absoluteX w => some (.decAbsx w)
    | _ => none
  | .INX =>
    match m with
    | .implied => some .inx
    | _ => none
  | .INY =>
    match m with
    | .implied => some .iny
    | _ => none
  | .DEX =>
    match m with
    | .implied => some .dex
    | _ => none
  | .DEY =>
    match m with
    | .implied => some .dey
    | _ => none
  | .TAX =>
    match m with
    | .implied => some .tax
    | _ => none
  | .TXA =>
    match m with
    | .implied => some .txa
    | _ => none
  | .TAY =>
    match m with
    | .implied => some .tay
    | _ => none
  | .TYA =>
    match m with
    | .implied => some .tya
    | _ => none
  | .TSX =>
    match m with
    | .implied => some .tsx
    | _ => none
  | .TXS =>
    match m with
    | .implied => some .txs
    | _ => none
  | .PHA =>
    match m with
    | .implied => some .pha
    | _ => none
  | .PLA =>
    match m with
    | .implied => some .pla
    | _ => none
  | .PHP =>
    match m with
    | .implied => some .php
    | _ => none
  | .PLP =>
    match m with
    | .implied => some .plp
    | _ => none
  | .JSR =>
    match m with
    | .absolute w => some (.jsr w)
    | _ => none
  | .RTS =>
    match m with
    | .implied => some .rts
    | _ => none
  | .RTI =>
    match m with
    | .implied => some .rti
    | _ => none
  | .BPL =>
    match m with
    | .relative b => some (.bpl b)
    | _ => none
  | .BMI =>
    match m with
    | .relative b => some (.bmi b)
    | _ => none
  | .BVC =>
    match m with
    | .relative b => some (.bvc b)
    | _ => none
  | .BVS =>
    match m with
    | .relative b => some (.bvs b)
    | _ => none
  | .BCC =>
    match m with
    | .relative b => some (.bcc b)
    | _ => none
  | .BCS =>
    match m with
    | .relative b => some (.bcs b)
    | _ => none
  | .BNE =>
    match m with
    | .relative b => some (.bne b)
    | _ => none
  | .BEQ =>
    match m with
    | .relative b => some (.beq b)
    | _ => none
  | .JMP =>
    match m with
    | .absolute w => some (.jmpAbs w)
    | .indirect w => some (.jmpInd w)
    | _ => none
  | .CLC =>
    match m with
    | .implied => some .clc
    | _ => none
  | .SEC =>
    match m with
    | .implied => some .sec
    | _ => none
  | .CLI =>
    match m with
    | .implied => some .cli
    | _ => none
  | .SEI =>
    match m with
    | .implied => some .sei
    | _ => none
  | .CLV =>
    match m with
    | .implied => some .clv
    | _ => none
  | .CLD =>
    match m with
    | .implied => some .cld
    | _ => none
  | .SED =>
    match m with
    | .implied => some .sed
    | _ => none
  | .BIT =>
    match m with
    | .zeroPage b => some (.bitZp b)
    | .absolute w => some (.bitAbs w)
    | _ => none
  | .NOP =>
    match m with
    | .implied => some .nop
    | _ => none
  | .BRK =>
    match m with
    | .implied => some .brk
    | _ => none
  | .LDA =>
    match m with
    | .immediate b => some (.ldaImm b)
    | .zeroPage b => some (.ldaZp b)
    | .zeroPageX b => some (.ldaZpx b)
    | .absolute w => some (.ldaAbs w)
    | .absoluteX w => some (.ldaAbsx w)
    | .absoluteY w => some (.ldaAbsy w)
    | .indexedIndirect b => some (.ldaIndx b)
    | .indirectIndexed b => some (.ldaIndy b)
    | _ => none
  | .LDX =>
    match m with
    | .immediate b => some (.ldxImm b)
    | .zeroPage b => some (.ldxZp b)
    | .zeroPageY b => some (.ldxZpy b)
    | .absolute w => some (.ldxAbs w)
    | .absoluteY w => some (.ldxAbsy w)
    | _ => none
  | .LDY =>
    match m with
    | .immediate b => some (.ldyImm b)
    | .zeroPage b => some (.ldyZp b)
    | .zeroPageX b => some (.ldyZpx b)
    | .absolute w => some (.ldyAbs w)
    | .absoluteX w => some (.ldyAbsx w)
    | _ => none
  | .STA =>
    match m with
    | .zeroPage b => some (.staZp b)
    | .zeroPageX b => some (.staZpx b)
    | .absolute w => some (.staAbs w)
    | .absoluteX w => some (.staAbsx w)
    | .absoluteY w => some (.staAbsy w)
    | .indexedIndirect b => some (.staIndx b)
    | .indirectIndexed b => some (.staIndy b)
    | _ => none
  | .STX =>
    match m with
    | .zeroPage b => some (.stxZp b)
    | .zeroPageY b => some (.stxZpy b)
    | .absolute w => some (.stxAbs w)
    | _ => none
  | .STY =>
    match m with
    | .zeroPage b => some (.styZp b)
    | .zeroPageX b => some (.styZpx b)
    | .absolute w => some (.styAbs w)
    | _ => none

/-- What the decoder answers: an instruction, or `raise IllegalOpcode` for the offending byte (R84, R251). -/
inductive Decoded where
  | instr (i : Instr)
  | illegalOpcode (op : Byte)
  deriving DecidableEq, Repr

/-- `Decode` of R84, over the bytes of the instruction: `byte k` is byte k counted from the opcode. Operand bytes have an
effect only for an opcode of the table (R86). -/
def decode (byte : Nat → Byte) : Decoded :=
  match opcodeCell (byte 0) with
  | none => .illegalOpcode (byte 0)
  | some (mn, k) =>
    match instrOfPair mn (modeOfBytes k (byte 1) (byte 2)) with
    | some i => .instr i
    | none => .illegalOpcode (byte 0)

/-- Byte k of an instruction word whose bit 0 is the least significant bit of its first byte and of which only the
lowest nbits bits are given; the bits above them are 0. -/
def tableByte (nbits w k : Nat) : Byte := BitVec.ofNat 8 ((w % 2 ^ nbits) / 256 ^ k)

/-- The instruction the decoder reads from a word numbered as spec/opcode_table.json numbers it. -/
def decodeTableWord (nbits w : Nat) : Option Instr :=
  match decode (tableByte nbits w) with
  | .instr i => some i
  | .illegalOpcode _ => none

/-- The opcode byte of an instruction, from the rows of R93. -/
def Instr.opcode : Instr → Byte
  | .adcImm _ => 0x69
  | .adcZp _ => 0x65
  | .adcZpx _ => 0x75
  | .adcAbs _ => 0x6D
  | .adcAbsx _ => 0x7D
  | .adcAbsy _ => 0x79
  | .adcIndx _ => 0x61
  | .adcIndy _ => 0x71
  | .sbcImm _ => 0xE9
  | .sbcZp _ => 0xE5
  | .sbcZpx _ => 0xF5
  | .sbcAbs _ => 0xED
  | .sbcAbsx _ => 0xFD
  | .sbcAbsy _ => 0xF9
  | .sbcIndx _ => 0xE1
  | .sbcIndy _ => 0xF1
  | .andImm _ => 0x29
  | .andZp _ => 0x25
  | .andZpx _ => 0x35
  | .andAbs _ => 0x2D
  | .andAbsx _ => 0x3D
  | .andAbsy _ => 0x39
  | .andIndx _ => 0x21
  | .andIndy _ => 0x31
  | .oraImm _ => 0x09
  | .oraZp _ => 0x05
  | .oraZpx _ => 0x15
  | .oraAbs _ => 0x0D
  | .oraAbsx _ => 0x1D
  | .oraAbsy _ => 0x19
  | .oraIndx _ => 0x01
  | .oraIndy _ => 0x11
  | .eorImm _ => 0x49
  | .eorZp _ => 0x45
  | .eorZpx _ => 0x55
  | .eorAbs _ => 0x4D
  | .eorAbsx _ => 0x5D
  | .eorAbsy _ => 0x59
  | .eorIndx _ => 0x41
  | .eorIndy _ => 0x51
  | .aslZp _ => 0x06
  | .aslZpx _ => 0x16
  | .aslAbs _ => 0x0E
  | .aslAbsx _ => 0x1E
  | .aslAcc => 0x0A
  | .lsrZp _ => 0x46
  | .lsrZpx _ => 0x56
  | .lsrAbs _ => 0x4E
  | .lsrAbsx _ => 0x5E
  | .lsrAcc => 0x4A
  | .rolZp _ => 0x26
  | .rolZpx _ => 0x36
  | .rolAbs _ => 0x2E
  | .rolAbsx _ => 0x3E
  | .rolAcc => 0x2A
  | .rorZp _ => 0x66
  | .rorZpx _ => 0x76
  | .rorAbs _ => 0x6E
  | .rorAbsx _ => 0x7E
  | .rorAcc => 0x6A
  | .cmpImm _ => 0xC9
  | .cmpZp _ => 0xC5
  | .cmpZpx _ => 0xD5
  | .cmpAbs _ => 0xCD
  | .cmpAbsx _ => 0xDD
  | .cmpAbsy _ => 0xD9
  | .cmpIndx _ => 0xC1
  | .cmpIndy _ => 0xD1
  | .cpxImm _ => 0xE0
  | .cpxZp _ => 0xE4
  | .cpxAbs _ => 0xEC
  | .cpyImm _ => 0xC0
  | .cpyZp _ => 0xC4
  | .cpyAbs _ => 0xCC
  | .incZp _ => 0xE6
  | .incZpx _ => 0xF6
  | .incAbs _ => 0xEE
  | .incAbsx _ => 0xFE
  | .decZp _ => 0xC6
  | .decZpx _ => 0xD6
  | .decAbs _ => 0xCE
  | .decAbsx _ => 0xDE
  | .inx => 0xE8
  | .iny => 0xC8
  | .dex => 0xCA
  | .dey => 0x88
  | .tax => 0xAA
  | .txa => 0x8A
  | .tay => 0xA8
  | .tya => 0x98
  | .tsx => 0xBA
  | .txs => 0x9A
  | .pha => 0x48
  | .pla => 0x68
  | .php => 0x08
  | .plp => 0x28
  | .jsr _ => 0x20
  | .rts => 0x60
  | .rti => 0x40
  | .bpl _ => 0x10
  | .bmi _ => 0x30
  | .bvc _ => 0x50
  | .bvs _ => 0x70
  | .bcc _ => 0x90
  | .bcs _ => 0xB0
  | .bne _ => 0xD0
  | .beq _ => 0xF0
  | .jmpAbs _ => 0x4C
  | .jmpInd _ => 0x6C
  | .clc => 0x18
  | .sec => 0x38
  | .cli => 0x58
  | .sei => 0x78
  | .clv => 0xB8
  | .cld => 0xD8
  | .sed => 0xF8
  | .bitZp _ => 0x24
  | .bitAbs _ => 0x2C
  | .nop => 0xEA
  | .brk => 0x00
  | .ldaImm _ => 0xA9
  | .ldaZp _ => 0xA5
  | .ldaZpx _ => 0xB5
  | .ldaAbs _ => 0xAD
  | .ldaAbsx _ => 0xBD
  | .ldaAbsy _ => 0xB9
  | .ldaIndx _ => 0xA1
  | .ldaIndy _ => 0xB1
  | .ldxImm _ => 0xA2
  | .ldxZp _ => 0xA6
  | .ldxZpy _ => 0xB6
  | .ldxAbs _ => 0xAE
  | .ldxAbsy _ => 0xBE
  | .ldyImm _ => 0xA0
  | .ldyZp _ => 0xA4
  | .ldyZpx _ => 0xB4
  | .ldyAbs _ => 0xAC
  | .ldyAbsx _ => 0xBC
  | .staZp _ => 0x85
  | .staZpx _ => 0x95
  | .staAbs _ => 0x8D
  | .staAbsx _ => 0x9D
  | .staAbsy _ => 0x99
  | .staIndx _ => 0x81
  | .staIndy _ => 0x91
  | .stxZp _ => 0x86
  | .stxZpy _ => 0x96
  | .stxAbs _ => 0x8E
  | .styZp _ => 0x84
  | .styZpx _ => 0x94
  | .styAbs _ => 0x8C

/-- The operand bytes of a mode value, low byte first (R80, R89). -/
def Mode.operandBytes : Mode → List Byte
  | .implied => []
  | .accumulator => []
  | .immediate b => [b]
  | .zeroPage b => [b]
  | .zeroPageX b => [b]
  | .zeroPageY b => [b]
  | .absolute w => [lowByte w, highByte w]
  | .absoluteX w => [lowByte w, highByte w]
  | .absoluteY w => [lowByte w, highByte w]
  | .indirect w => [lowByte w, highByte w]
  | .indexedIndirect b => [b]
  | .indirectIndexed b => [b]
  | .relative b => [b]

/-- `Encode` of R89: `opcode-byte ++ operand-bytes`. Total, because illegal pairs have no term (R91). -/
def encode (i : Instr) : List Byte := i.opcode :: i.mode.operandBytes

/-- The rows of the decoder's table for one mnemonic, by ascending opcode: opcode and mode variant. -/
def formsOf (mn : Mnemonic) : List (Byte × ModeKind) :=
  (List.range 256).filterMap fun n =>
    match opcodeCell (BitVec.ofNat 8 n) with
    | some (mn', k) => if mn' = mn then some (BitVec.ofNat 8 n, k) else none
    | none => none

end Sys2Proof
end

