-- ==== Sys2Proof/Machine/Memory.lean ====
section
/-! DEFINITION. The byte store M (10_state.md R23, 20_memory.md R40 to R46) as a list of cells in one canonical form:
addresses strictly rising, all below 65,536, no cell that holds what an unlisted address reads as (logs 3, 6). -/

namespace Sys2Proof.Machine

/-- The listed cells of M. -/
abbrev Memory := List Host.Cell

/-- What an address that is not listed reads as: INIT_MEM's default 0x00 (R26, D34). DESIGN CHOICE (log 3), unsafe. -/
def Memory.unlisted : Byte := 0x00

/-- The byte of the first cell at an address, or what an unlisted address reads as. -/
def Memory.lookup : Memory → Nat → Byte
  | [], _ => Memory.unlisted
  | (k, v) :: rest, a => if k = a then v else Memory.lookup rest a

/-- Take every cell at an address out of the list. -/
def Memory.erase : Memory → Nat → Memory
  | [], _ => []
  | (k, v) :: rest, a => if k = a then Memory.erase rest a else (k, v) :: Memory.erase rest a

/-- Put a cell in its place in the rising order, in place of one at the same address. -/
def Memory.insert : Memory → Nat → Byte → Memory
  | [], a, v => [(a, v)]
  | (k, u) :: rest, a, v =>
    if a < k then (a, v) :: (k, u) :: rest
    else if a = k then (a, v) :: rest
    else (k, u) :: Memory.insert rest a v

/-- `MemRead(addr, 1)` of R41: never faults, no side effect. -/
def Memory.read (m : Memory) (a : Word) : Byte := m.lookup a.toNat

/-- `MemWrite(addr, 1, v)` of R42: never faults; a byte that reads as an unlisted one is not listed. -/
def Memory.write (m : Memory) (a : Word) (v : Byte) : Memory :=
  if v = Memory.unlisted then m.erase a.toNat else m.insert a.toNat v

/-- `Read16(a)` of R45: low byte at a, high byte at the next linear address modulo 65,536. -/
def Memory.read16 (m : Memory) (a : Word) : Word := concat (m.read (a + 1)) (m.read a)

/-- Bytes loaded at consecutive addresses modulo 65,536 (R273). -/
def Memory.load (m : Memory) (a : Word) : List Byte → Memory
  | [] => m
  | v :: rest => Memory.load (m.write a v) (a + 1) rest

/-- Are the cells in canonical form, with no address below lo? -/
def Memory.wfFrom (lo : Nat) : Memory → Bool
  | [] => true
  | (k, v) :: rest => decide (lo ≤ k) && decide (k < Config.memSize) && decide (v ≠ Memory.unlisted) && Memory.wfFrom (k + 1) rest

/-- Is the memory in canonical form (log 6)? -/
def Memory.wf (m : Memory) : Bool := Memory.wfFrom 0 m

/-- `Decode(M, pc)` of R84: operand bytes at `(pc + 1) mod 65536` and `(pc + 2) mod 65536` (R85). -/
def Memory.decodeAt (m : Memory) (pc : Word) : Decoded :=
  decode fun k => m.read (pc + BitVec.ofNat 16 k)

end Sys2Proof.Machine
end

