-- ==== Sys2Proof/Machine/State.lean ====
section
/-! DEFINITION. The architectural state (10_state.md R10 to R24), the two faults, and the launch (R26, R271). -/

namespace Sys2Proof.Machine

/-- The seven status flags, independent booleans and not a byte register (R16). -/
structure Flags where
  /-- Carry (R17). -/
  C : Bool
  /-- Zero (R17). -/
  Z : Bool
  /-- Interrupt-disable, inert (R18). -/
  I : Bool
  /-- Decimal-mode, inert (R18). -/
  D : Bool
  /-- Break-command, inert (R18). -/
  B : Bool
  /-- Overflow (R17). -/
  V : Bool
  /-- Negative (R17). -/
  N : Bool
  deriving DecidableEq, Repr

/-- The two faults (60_exceptions.md R250). They are the values of the fault status F (R24) and the reason a faulted
machine takes no step (R254). -/
inductive Fault where
  /-- Raised by the decoder for a byte that is no legal opcode, with the address of the byte and the byte (R251). The spec
  says it of the hardware: safe. -/
  | illegalOpcode (pc : Word) (op : Byte)
  /-- Raised by a Store on an Immediate, by `ORA #` and `EOR #` alone, with the address of the opcode byte (R252). The spec
  says it of the hardware: safe. -/
  | invalidOperation (pc : Word)
  deriving DecidableEq, Repr

/-- Why an instruction has no meaning here. -/
inductive Refusal where
  /-- Raised by an arm of exec whose instruction has no meaning yet; no arm does. Stopping is safe. -/
  | notModelled (mnemonic : String)
  deriving DecidableEq, Repr

/-- The whole state of the core: the register file (R10), M (R23) and the fault status (R24). -/
structure State where
  /-- PC, the program counter (R11). -/
  pc : Word
  /-- SP, the offset into the stack page (R12). -/
  sp : Byte
  /-- A, the accumulator (R13). -/
  a : Byte
  /-- X, an index register (R14). -/
  x : Byte
  /-- Y, an index register (R15). -/
  y : Byte
  /-- The seven flags (R16). -/
  flags : Flags
  /-- M, the byte store (R23). -/
  mem : Memory
  /-- F, the fault status: none, or the fault that ended the run (R24, R254). -/
  fault : Option Fault
  deriving DecidableEq, Repr

/-- What a step or a meaning answers. -/
abbrev Result := Host.Outcome State Fault Refusal

/-- The launch parameters INIT_* a host supplies (R26), with the defaults the spec offers (R271); INIT_PC has none. -/
structure Launch where
  initPC : Word
  initSP : Byte := Config.initSP
  initA : Byte := 0x00
  initX : Byte := 0x00
  initY : Byte := 0x00
  initP : Flags := ⟨false, false, false, false, false, false, false⟩
  initMem : Memory := []
  deriving DecidableEq, Repr

/-- The state at launch (R26, R270): every cell from its parameter, F = None. -/
def State.launch (l : Launch) : State :=
  { pc := l.initPC, sp := l.initSP, a := l.initA, x := l.initX, y := l.initY, flags := l.initP, mem := l.initMem,
    fault := none }

/-- The machine right after reset: the core has no reset (R270), so this is the default launch state (R271) with nothing
loaded, at the PC that log 1 names. DESIGN CHOICE (logs 1, 2, 3), unsafe. -/
def State.reset : State := State.launch { initPC := Config.initPC }

end Sys2Proof.Machine
end

