-- ==== Sys2Proof/Machine/Flags.lean ====
section
/-! DEFINITION. The 6502_alu block: the 8-bit operations with their flag results (files 40 to 44 and 10_state.md R20),
and the flags byte (R21, R22). -/

namespace Sys2Proof.Machine

/-- A flag as a byte, 0 or 1 (R8). -/
def flagByte (c : Bool) : Byte := BitVec.ofNat 8 c.toNat

/-- The signed reading `sext_8(b)`, -128 to 127 (R7, R8). -/
def sext8 (b : Byte) : Int := b.toInt

/-- `SetZN(v)` of R20. -/
def Flags.setZN (f : Flags) (v : Byte) : Flags := { f with Z := decide (v = 0), N := v.getLsbD 7 }

/-- `PackP()` of R21: bit 7 N, 6 V, 5 always 1, 4 B, 3 D, 2 I, 1 Z, 0 C. -/
def Flags.packP (f : Flags) : Byte :=
  BitVec.ofNat 8 (f.N.toNat * 128 + f.V.toNat * 64 + 32 + f.B.toNat * 16 + f.D.toNat * 8 + f.I.toNat * 4 +
    f.Z.toNat * 2 + f.C.toNat)

/-- `UnpackP(b)` of R22: all seven flags, bit 5 ignored. -/
def Flags.unpackP (b : Byte) : Flags :=
  { N := b.getLsbD 7, V := b.getLsbD 6, B := b.getLsbD 4, D := b.getLsbD 3, I := b.getLsbD 2, Z := b.getLsbD 1,
    C := b.getLsbD 0 }

/-- The natural number `A + m + C` of R110, before it is reduced. -/
def adcSum (a m : Byte) (c : Bool) : Nat := a.toNat + m.toNat + c.toNat

/-- The result of ADC (R110). -/
def adcValue (a m : Byte) (c : Bool) : Byte := BitVec.ofNat 8 (adcSum a m c)

/-- The flags after ADC (R110). -/
def Flags.afterAdc (f : Flags) (a m : Byte) : Flags :=
  let r := adcValue a m f.C
  { f with C := decide (adcSum a m f.C > 255), V := ((a ^^^ r) &&& (m ^^^ r)).getLsbD 7 }.setZN r

/-- The result of SBC, which has no borrow in (R111). -/
def sbcValue (a m : Byte) : Byte := a - m

/-- The flags after SBC (R111). -/
def Flags.afterSbc (f : Flags) (a m : Byte) : Flags :=
  let r := sbcValue a m
  { f with C := decide (a.toNat ≥ m.toNat), V := ((a ^^^ m) &&& (a ^^^ r)).getLsbD 7 }.setZN r

/-- The result of ASL (R130). -/
def aslValue (v : Byte) : Byte := v <<< 1

/-- The result of LSR (R131). -/
def lsrValue (v : Byte) : Byte := v >>> 1

/-- The result of ROL: the old carry enters bit 0 (R132). -/
def rolValue (v : Byte) (c : Bool) : Byte := (v <<< 1) ||| flagByte c

/-- The result of ROR: the old carry enters bit 7 (R133). -/
def rorValue (v : Byte) (c : Bool) : Byte := (v >>> 1) ||| (flagByte c <<< 7)

/-- The flags after a shift or rotate: C takes the bit that left, Z and N come from the result (R130 to R133). -/
def Flags.afterShift (f : Flags) (bitOut : Bool) (r : Byte) : Flags := { f with C := bitOut }.setZN r

/-- `diff` of R140: the difference of the unsigned values as an integer. -/
def compareDiff (r m : Byte) : Int := (r.toNat : Int) - (m.toNat : Int)

/-- The flags after a compare (R140 to R142): N is `diff < 0`, not bit 7 of the reduced difference. -/
def Flags.afterCompare (f : Flags) (r m : Byte) : Flags :=
  let diff := compareDiff r m
  { f with C := decide (diff ≥ 0), Z := decide (diff = 0), N := decide (diff < 0) }

/-- The flags after BIT (R217): Z from the and with A, N and V from the operand. -/
def Flags.afterBit (f : Flags) (a m : Byte) : Flags :=
  { f with Z := decide (m &&& a = 0), N := m.getLsbD 7, V := m.getLsbD 6 }

end Sys2Proof.Machine
end

