-- ==== Sys2Proof/Machine/Ops.lean ====
section
/-! DEFINITION. The named operations over registers, flags, stack and memory that the meanings are written with. -/

namespace Sys2Proof.Machine

/-- `PC <- v` (R8). -/
def State.setPC (s : State) (v : Word) : State := { s with pc := v }

/-- `SP <- v` (R8). -/
def State.setSP (s : State) (v : Byte) : State := { s with sp := v }

/-- `A <- v` (R8). -/
def State.setA (s : State) (v : Byte) : State := { s with a := v }

/-- `X <- v` (R8). -/
def State.setX (s : State) (v : Byte) : State := { s with x := v }

/-- `Y <- v` (R8). -/
def State.setY (s : State) (v : Byte) : State := { s with y := v }

/-- Assign the seven flags. -/
def State.setFlags (s : State) (f : Flags) : State := { s with flags := f }

/-- `SetZN(v)` on the state's flags (R20). -/
def State.setZN (s : State) (v : Byte) : State := s.setFlags (s.flags.setZN v)

/-- `MemWrite(addr, 1, v)` on the state (R42). -/
def State.write (s : State) (a : Word) (v : Byte) : State := { s with mem := s.mem.write a v }

/-- `Advance(mode)` for a mode of length len: past the opcode byte and the operand bytes, modulo 65,536 (R8, R11). -/
def State.advance (s : State) (len : Nat) : State := s.setPC (s.pc + 1 + BitVec.ofNat 16 len)

/-- The address `{0x01, SP}` of a stack access (R12, R49). -/
def stackAddr (sp : Byte) : Word := concat (highByte Config.stackPage) sp

/-- `Push(v)` of R47: store at SP, then decrement SP modulo 256. -/
def State.push (s : State) (v : Byte) : State := (s.write (stackAddr s.sp) v).setSP (s.sp - 1)

/-- The state after `Pull()` of R48: SP incremented modulo 256. -/
def State.pulled (s : State) : State := s.setSP (s.sp + 1)

/-- The byte `Pull()` returns (R48): the one at the incremented SP. -/
def State.pullByte (s : State) : Byte := s.mem.read (stackAddr (s.sp + 1))

/-- Fault entry (60_exceptions.md R254): F takes the fault, no register, flag or memory byte changes, PC stays. It is the
one way an instruction or the decoder raises; there is no return from it, and RTI does not clear F (R257). -/
def State.raise (s : State) (f : Fault) : State := { s with fault := some f }

/-- End an instruction whose Store may raise: a raise abandons the step, no assignment of it takes effect (R8, R254). -/
def State.commit (s : State) (r : Except Fault State) : Result :=
  match r with
  | .ok t => .next t
  | .error f => .next (s.raise f)

end Sys2Proof.Machine
end

