-- ==== Sys2Proof/Machine/Operands.lean ====
section
/-! DEFINITION. The 6502_memory_read/write block: the addressing modes (20_memory.md R50 to R66). A mode is resolved once,
in the state before the instruction writes anything, to a place and an encoded length (R65); Load and Store then act on
the place. -/

namespace Sys2Proof.Machine

/-- EA of ZeroPage(b): high byte 0x00 (R53). -/
def eaZeroPage (b : Byte) : Word := b.setWidth 16

/-- EA of ZeroPageX(b): the sum modulo 256, never outside the zero page (R54). -/
def eaZeroPageX (b : Byte) (s : State) : Word := eaZeroPage (b + s.x)

/-- EA of ZeroPageY(b) (R55). -/
def eaZeroPageY (b : Byte) (s : State) : Word := eaZeroPage (b + s.y)

/-- EA of AbsoluteX(w): the sum modulo 65,536 (R57). -/
def eaAbsoluteX (w : Word) (s : State) : Word := w + s.x.setWidth 16

/-- EA of AbsoluteY(w) (R58). -/
def eaAbsoluteY (w : Word) (s : State) : Word := w + s.y.setWidth 16

/-- EA of IndexedIndirect(b): the pointer at the zero-page sum b + X, read linearly (R60). -/
def eaIndexedIndirect (b : Byte) (s : State) : Word := s.mem.read16 (eaZeroPageX b s)

/-- EA of IndirectIndexed(b): the pointer at b, plus Y, modulo 65,536 (R61). -/
def eaIndirectIndexed (b : Byte) (s : State) : Word := s.mem.read16 (eaZeroPage b) + s.y.setWidth 16

/-- `Dest` of Absolute(w): the address itself (R56). -/
def destAbsolute (w : Word) : Word := w

/-- `Dest` of Indirect(w): the pointer at w (R59). -/
def destIndirect (w : Word) (s : State) : Word := s.mem.read16 w

/-- Where a resolved operand lives. -/
inductive Place where
  | accumulator
  | literal (b : Byte)
  | memory (ea : Word)
  deriving DecidableEq, Repr

/-- A resolved operand: its place, and the encoded length of its mode (R50). -/
structure Operand where
  place : Place
  len : Nat
  deriving DecidableEq, Repr

/-- Accumulator (R51). -/
def Operand.accumulator : Operand := ⟨.accumulator, 0⟩

/-- Immediate(b) (R52). -/
def Operand.immediate (b : Byte) : Operand := ⟨.literal b, 1⟩

/-- ZeroPage(b) (R53). -/
def Operand.zeroPage (b : Byte) : Operand := ⟨.memory (eaZeroPage b), 1⟩

/-- ZeroPageX(b) (R54). -/
def Operand.zeroPageX (b : Byte) (s : State) : Operand := ⟨.memory (eaZeroPageX b s), 1⟩

/-- ZeroPageY(b) (R55). -/
def Operand.zeroPageY (b : Byte) (s : State) : Operand := ⟨.memory (eaZeroPageY b s), 1⟩

/-- Absolute(w) (R56). -/
def Operand.absolute (w : Word) : Operand := ⟨.memory w, 2⟩

/-- AbsoluteX(w) (R57). -/
def Operand.absoluteX (w : Word) (s : State) : Operand := ⟨.memory (eaAbsoluteX w s), 2⟩

/-- AbsoluteY(w) (R58). -/
def Operand.absoluteY (w : Word) (s : State) : Operand := ⟨.memory (eaAbsoluteY w s), 2⟩

/-- IndexedIndirect(b) (R60). -/
def Operand.indexedIndirect (b : Byte) (s : State) : Operand := ⟨.memory (eaIndexedIndirect b s), 1⟩

/-- IndirectIndexed(b) (R61). -/
def Operand.indirectIndexed (b : Byte) (s : State) : Operand := ⟨.memory (eaIndirectIndexed b s), 1⟩

/-- `Load` (R64): A, the literal, or the byte at the effective address. -/
def Operand.load (o : Operand) (s : State) : Byte :=
  match o.place with
  | .accumulator => s.a
  | .literal b => b
  | .memory ea => s.mem.read ea

/-- `Store` (R64): A, the byte at the effective address, or `raise InvalidOperation(PC)` on an Immediate (R52). -/
def Operand.store (o : Operand) (v : Byte) (s : State) : Except Fault State :=
  match o.place with
  | .accumulator => .ok (s.setA v)
  | .literal _ => .error (.invalidOperation s.pc)
  | .memory ea => .ok (s.write ea v)

/-- The Load and Store columns of R64: the resolved operand of a mode value; none for the modes that have neither
(log 9). -/
def operandOf (m : Mode) (s : State) : Option Operand :=
  match m with
  | .implied => none
  | .accumulator => some .accumulator
  | .immediate b => some (.immediate b)
  | .zeroPage b => some (.zeroPage b)
  | .zeroPageX b => some (.zeroPageX b s)
  | .zeroPageY b => some (.zeroPageY b s)
  | .absolute w => some (.absolute w)
  | .absoluteX w => some (.absoluteX w s)
  | .absoluteY w => some (.absoluteY w s)
  | .indirect _ => none
  | .indexedIndirect b => some (.indexedIndirect b s)
  | .indirectIndexed b => some (.indirectIndexed b s)
  | .relative _ => none

/-- The Dest column of R64; none for the modes that have no destination (log 9). -/
def destOf (m : Mode) (s : State) : Option Word :=
  match m with
  | .implied => none
  | .accumulator => none
  | .immediate _ => none
  | .zeroPage _ => none
  | .zeroPageX _ => none
  | .zeroPageY _ => none
  | .absolute w => some (destAbsolute w)
  | .absoluteX _ => none
  | .absoluteY _ => none
  | .indirect w => some (destIndirect w s)
  | .indexedIndirect _ => none
  | .indirectIndexed _ => none
  | .relative _ => none

end Sys2Proof.Machine
end

