-- ==== Sys2Proof/Machine/Arithmetic.lean ====
section
/-! DEFINITION. ADC and SBC (40_arithmetic.md R110 to R113). -/

namespace Sys2Proof.Machine

/-- ADC on a resolved operand (R110): binary whatever D holds (R112). -/
def adc (o : Operand) (s : State) : Result :=
  let m := o.load s
  .next (((s.setFlags (s.flags.afterAdc s.a m)).setA (adcValue s.a m s.flags.C)).advance o.len)

/-- SBC on a resolved operand (R111): C is not read. -/
def sbc (o : Operand) (s : State) : Result :=
  let m := o.load s
  .next (((s.setFlags (s.flags.afterSbc s.a m)).setA (sbcValue s.a m)).advance o.len)

/-- `ADC #b` (R110). -/
def execAdcImm (b : Byte) (s : State) : Result := adc (.immediate b) s

/-- `ADC b` (R110). -/
def execAdcZp (b : Byte) (s : State) : Result := adc (.zeroPage b) s

/-- `ADC b,X` (R110). -/
def execAdcZpx (b : Byte) (s : State) : Result := adc (.zeroPageX b s) s

/-- `ADC w` (R110). -/
def execAdcAbs (w : Word) (s : State) : Result := adc (.absolute w) s

/-- `ADC w,X` (R110). -/
def execAdcAbsx (w : Word) (s : State) : Result := adc (.absoluteX w s) s

/-- `ADC w,Y` (R110). -/
def execAdcAbsy (w : Word) (s : State) : Result := adc (.absoluteY w s) s

/-- `ADC (b,X)` (R110). -/
def execAdcIndx (b : Byte) (s : State) : Result := adc (.indexedIndirect b s) s

/-- `ADC (b),Y` (R110). -/
def execAdcIndy (b : Byte) (s : State) : Result := adc (.indirectIndexed b s) s

/-- `SBC #b` (R111). -/
def execSbcImm (b : Byte) (s : State) : Result := sbc (.immediate b) s

/-- `SBC b` (R111). -/
def execSbcZp (b : Byte) (s : State) : Result := sbc (.zeroPage b) s

/-- `SBC b,X` (R111). -/
def execSbcZpx (b : Byte) (s : State) : Result := sbc (.zeroPageX b s) s

/-- `SBC w` (R111). -/
def execSbcAbs (w : Word) (s : State) : Result := sbc (.absolute w) s

/-- `SBC w,X` (R111). -/
def execSbcAbsx (w : Word) (s : State) : Result := sbc (.absoluteX w s) s

/-- `SBC w,Y` (R111). -/
def execSbcAbsy (w : Word) (s : State) : Result := sbc (.absoluteY w s) s

/-- `SBC (b,X)` (R111). -/
def execSbcIndx (b : Byte) (s : State) : Result := sbc (.indexedIndirect b s) s

/-- `SBC (b),Y` (R111). -/
def execSbcIndy (b : Byte) (s : State) : Result := sbc (.indirectIndexed b s) s

end Sys2Proof.Machine
end

