-- ==== Sys2Proof/Machine/Branch.lean ====
section
/-! DEFINITION. The eight branches and JMP (47_branch_jump.md R190 to R200). -/

namespace Sys2Proof.Machine

/-- The common rule of the branches (R190): past the two bytes, then by the signed displacement if the condition holds. -/
def branchIf (cond : Bool) (b : Byte) (s : State) : Result :=
  let next := s.pc + 2
  .next (s.setPC (if cond then next + b.signExtend 16 else next))

/-- BPL (R191): taken when N = 0. -/
def execBpl (b : Byte) (s : State) : Result := branchIf (!s.flags.N) b s

/-- BMI (R192): taken when N = 1. -/
def execBmi (b : Byte) (s : State) : Result := branchIf s.flags.N b s

/-- BVC (R193): taken when V = 0. -/
def execBvc (b : Byte) (s : State) : Result := branchIf (!s.flags.V) b s

/-- BVS (R194): taken when V = 1. -/
def execBvs (b : Byte) (s : State) : Result := branchIf s.flags.V b s

/-- BCC (R195): taken when C = 0. -/
def execBcc (b : Byte) (s : State) : Result := branchIf (!s.flags.C) b s

/-- BCS (R196): taken when C = 1. -/
def execBcs (b : Byte) (s : State) : Result := branchIf s.flags.C b s

/-- BNE (R197): taken when Z = 0. -/
def execBne (b : Byte) (s : State) : Result := branchIf (!s.flags.Z) b s

/-- BEQ (R198): taken when Z = 1. -/
def execBeq (b : Byte) (s : State) : Result := branchIf s.flags.Z b s

/-- `JMP w` (R199): the destination is the address itself. -/
def execJmpAbs (w : Word) (s : State) : Result := .next (s.setPC (destAbsolute w))

/-- `JMP (w)` (R199): the destination is the pointer at w. -/
def execJmpInd (w : Word) (s : State) : Result := .next (s.setPC (destIndirect w s))

end Sys2Proof.Machine
end

