-- ==== Sys2Proof/Machine/Compare.lean ====
section
/-! DEFINITION. CMP, CPX and CPY (43_compare.md R140 to R142). -/

namespace Sys2Proof.Machine

/-- Compare a register's value with a resolved operand: only C, Z and N change (R140). -/
def compareWith (r : Byte) (o : Operand) (s : State) : Result :=
  .next ((s.setFlags (s.flags.afterCompare r (o.load s))).advance o.len)

/-- `CMP #b` (R140). -/
def execCmpImm (b : Byte) (s : State) : Result := compareWith s.a (.immediate b) s

/-- `CMP b` (R140). -/
def execCmpZp (b : Byte) (s : State) : Result := compareWith s.a (.zeroPage b) s

/-- `CMP b,X` (R140). -/
def execCmpZpx (b : Byte) (s : State) : Result := compareWith s.a (.zeroPageX b s) s

/-- `CMP w` (R140). -/
def execCmpAbs (w : Word) (s : State) : Result := compareWith s.a (.absolute w) s

/-- `CMP w,X` (R140). -/
def execCmpAbsx (w : Word) (s : State) : Result := compareWith s.a (.absoluteX w s) s

/-- `CMP w,Y` (R140). -/
def execCmpAbsy (w : Word) (s : State) : Result := compareWith s.a (.absoluteY w s) s

/-- `CMP (b,X)` (R140). -/
def execCmpIndx (b : Byte) (s : State) : Result := compareWith s.a (.indexedIndirect b s) s

/-- `CMP (b),Y` (R140). -/
def execCmpIndy (b : Byte) (s : State) : Result := compareWith s.a (.indirectIndexed b s) s

/-- `CPX #b` (R141). -/
def execCpxImm (b : Byte) (s : State) : Result := compareWith s.x (.immediate b) s

/-- `CPX b` (R141). -/
def execCpxZp (b : Byte) (s : State) : Result := compareWith s.x (.zeroPage b) s

/-- `CPX w` (R141). -/
def execCpxAbs (w : Word) (s : State) : Result := compareWith s.x (.absolute w) s

/-- `CPY #b` (R142). -/
def execCpyImm (b : Byte) (s : State) : Result := compareWith s.y (.immediate b) s

/-- `CPY b` (R142). -/
def execCpyZp (b : Byte) (s : State) : Result := compareWith s.y (.zeroPage b) s

/-- `CPY w` (R142). -/
def execCpyAbs (w : Word) (s : State) : Result := compareWith s.y (.absolute w) s

end Sys2Proof.Machine
end

