-- ==== Sys2Proof/Machine/FlagOps.lean ====
section
/-! DEFINITION. CLC, SEC, CLI, SEI, CLV, CLD, SED, BIT, NOP and BRK (48_flag_bit_nop.md R210 to R219). -/

namespace Sys2Proof.Machine

/-- CLC (R210): `C <- 0`. -/
def execClc (s : State) : Result := .next ((s.setFlags { s.flags with C := false }).advance 0)

/-- SEC (R211): `C <- 1`. -/
def execSec (s : State) : Result := .next ((s.setFlags { s.flags with C := true }).advance 0)

/-- CLI (R212): `I <- 0`. -/
def execCli (s : State) : Result := .next ((s.setFlags { s.flags with I := false }).advance 0)

/-- SEI (R213): `I <- 1`. -/
def execSei (s : State) : Result := .next ((s.setFlags { s.flags with I := true }).advance 0)

/-- CLV (R214): `V <- 0`. -/
def execClv (s : State) : Result := .next ((s.setFlags { s.flags with V := false }).advance 0)

/-- CLD (R215): `D <- 0`. -/
def execCld (s : State) : Result := .next ((s.setFlags { s.flags with D := false }).advance 0)

/-- SED (R216): `D <- 1`. -/
def execSed (s : State) : Result := .next ((s.setFlags { s.flags with D := true }).advance 0)

/-- BIT on a resolved operand (R217): A and memory are not written. -/
def bitTest (o : Operand) (s : State) : Result :=
  .next ((s.setFlags (s.flags.afterBit s.a (o.load s))).advance o.len)

/-- `BIT b` (R217). -/
def execBitZp (b : Byte) (s : State) : Result := bitTest (.zeroPage b) s

/-- `BIT w` (R217). -/
def execBitAbs (w : Word) (s : State) : Result := bitTest (.absolute w) s

/-- NOP (R218): advances PC only. -/
def execNop (s : State) : Result := .next (s.advance 0)

/-- BRK (R219): a stub advancing PC by one; no push, no flag, no vector. -/
def execBrk (s : State) : Result := .next (s.advance 0)

end Sys2Proof.Machine
end

