-- ==== Sys2Proof/Machine/Logical.lean ====
section
/-! DEFINITION. AND, ORA and EOR (41_logical.md R120 to R123). -/

namespace Sys2Proof.Machine

/-- AND on a resolved operand: the result goes to A (R120). -/
def logicalAnd (o : Operand) (s : State) : Result :=
  let r := s.a &&& o.load s
  .next (((s.setZN r).setA r).advance o.len)

/-- Store a value through the mode, then set Z and N from it and advance; a raising Store abandons the step. Shared by
the instructions that write their result back through the mode and touch no other flag (R121, R122, R150, R151). -/
def writeBack (o : Operand) (r : Byte) (s : State) : Result :=
  s.commit ((o.store r s).map fun t => (t.setZN r).advance o.len)

/-- ORA on a resolved operand: written back through the mode, A is not written (R121). -/
def logicalOr (o : Operand) (s : State) : Result := writeBack o (s.a ||| o.load s) s

/-- EOR on a resolved operand: written back through the mode, A is not written (R122). -/
def logicalEor (o : Operand) (s : State) : Result := writeBack o (s.a ^^^ o.load s) s

/-- `AND #b` (R120). -/
def execAndImm (b : Byte) (s : State) : Result := logicalAnd (.immediate b) s

/-- `AND b` (R120). -/
def execAndZp (b : Byte) (s : State) : Result := logicalAnd (.zeroPage b) s

/-- `AND b,X` (R120). -/
def execAndZpx (b : Byte) (s : State) : Result := logicalAnd (.zeroPageX b s) s

/-- `AND w` (R120). -/
def execAndAbs (w : Word) (s : State) : Result := logicalAnd (.absolute w) s

/-- `AND w,X` (R120). -/
def execAndAbsx (w : Word) (s : State) : Result := logicalAnd (.absoluteX w s) s

/-- `AND w,Y` (R120). -/
def execAndAbsy (w : Word) (s : State) : Result := logicalAnd (.absoluteY w s) s

/-- `AND (b,X)` (R120). -/
def execAndIndx (b : Byte) (s : State) : Result := logicalAnd (.indexedIndirect b s) s

/-- `AND (b),Y` (R120). -/
def execAndIndy (b : Byte) (s : State) : Result := logicalAnd (.indirectIndexed b s) s

/-- `ORA #b` (R121). -/
def execOraImm (b : Byte) (s : State) : Result := logicalOr (.immediate b) s

/-- `ORA b` (R121). -/
def execOraZp (b : Byte) (s : State) : Result := logicalOr (.zeroPage b) s

/-- `ORA b,X` (R121). -/
def execOraZpx (b : Byte) (s : State) : Result := logicalOr (.zeroPageX b s) s

/-- `ORA w` (R121). -/
def execOraAbs (w : Word) (s : State) : Result := logicalOr (.absolute w) s

/-- `ORA w,X` (R121). -/
def execOraAbsx (w : Word) (s : State) : Result := logicalOr (.absoluteX w s) s

/-- `ORA w,Y` (R121). -/
def execOraAbsy (w : Word) (s : State) : Result := logicalOr (.absoluteY w s) s

/-- `ORA (b,X)` (R121). -/
def execOraIndx (b : Byte) (s : State) : Result := logicalOr (.indexedIndirect b s) s

/-- `ORA (b),Y` (R121). -/
def execOraIndy (b : Byte) (s : State) : Result := logicalOr (.indirectIndexed b s) s

/-- `EOR #b` (R122). -/
def execEorImm (b : Byte) (s : State) : Result := logicalEor (.immediate b) s

/-- `EOR b` (R122). -/
def execEorZp (b : Byte) (s : State) : Result := logicalEor (.zeroPage b) s

/-- `EOR b,X` (R122). -/
def execEorZpx (b : Byte) (s : State) : Result := logicalEor (.zeroPageX b s) s

/-- `EOR w` (R122). -/
def execEorAbs (w : Word) (s : State) : Result := logicalEor (.absolute w) s

/-- `EOR w,X` (R122). -/
def execEorAbsx (w : Word) (s : State) : Result := logicalEor (.absoluteX w s) s

/-- `EOR w,Y` (R122). -/
def execEorAbsy (w : Word) (s : State) : Result := logicalEor (.absoluteY w s) s

/-- `EOR (b,X)` (R122). -/
def execEorIndx (b : Byte) (s : State) : Result := logicalEor (.indexedIndirect b s) s

/-- `EOR (b),Y` (R122). -/
def execEorIndy (b : Byte) (s : State) : Result := logicalEor (.indirectIndexed b s) s

end Sys2Proof.Machine
end

