-- ==== Sys2Proof/Machine/IncDec.lean ====
section
/-! DEFINITION. INC, DEC, INX, INY, DEX and DEY (44_incdec.md R150 to R155). -/

namespace Sys2Proof.Machine

/-- INC on a resolved operand (R150). -/
def increment (o : Operand) (s : State) : Result := writeBack o (o.load s + 1) s

/-- DEC on a resolved operand (R151). -/
def decrement (o : Operand) (s : State) : Result := writeBack o (o.load s - 1) s

/-- `INC b` (R150). -/
def execIncZp (b : Byte) (s : State) : Result := increment (.zeroPage b) s

/-- `INC b,X` (R150). -/
def execIncZpx (b : Byte) (s : State) : Result := increment (.zeroPageX b s) s

/-- `INC w` (R150). -/
def execIncAbs (w : Word) (s : State) : Result := increment (.absolute w) s

/-- `INC w,X` (R150). -/
def execIncAbsx (w : Word) (s : State) : Result := increment (.absoluteX w s) s

/-- `DEC b` (R151). -/
def execDecZp (b : Byte) (s : State) : Result := decrement (.zeroPage b) s

/-- `DEC b,X` (R151). -/
def execDecZpx (b : Byte) (s : State) : Result := decrement (.zeroPageX b s) s

/-- `DEC w` (R151). -/
def execDecAbs (w : Word) (s : State) : Result := decrement (.absolute w) s

/-- `DEC w,X` (R151). -/
def execDecAbsx (w : Word) (s : State) : Result := decrement (.absoluteX w s) s

/-- INX (R152): `X <- (X + 1) mod 256`. -/
def execInx (s : State) : Result := .next (((s.setX (s.x + 1)).setZN (s.x + 1)).advance 0)

/-- INY (R153): `Y <- (Y + 1) mod 256`. -/
def execIny (s : State) : Result := .next (((s.setY (s.y + 1)).setZN (s.y + 1)).advance 0)

/-- DEX (R154): `X <- (X - 1) mod 256`. -/
def execDex (s : State) : Result := .next (((s.setX (s.x - 1)).setZN (s.x - 1)).advance 0)

/-- DEY (R155): `Y <- (Y - 1) mod 256`. -/
def execDey (s : State) : Result := .next (((s.setY (s.y - 1)).setZN (s.y - 1)).advance 0)

end Sys2Proof.Machine
end

