-- ==== Sys2Proof/Machine/LoadStore.lean ====
section
/-! DEFINITION. LDA, LDX, LDY, STA, STX and STY (49_load_store.md R230 to R235). -/

namespace Sys2Proof.Machine

/-- LDA from a resolved operand (R230). -/
def lda (o : Operand) (s : State) : Result :=
  let m := o.load s
  .next (((s.setA m).setZN m).advance o.len)

/-- LDX from a resolved operand (R231). -/
def ldx (o : Operand) (s : State) : Result :=
  let m := o.load s
  .next (((s.setX m).setZN m).advance o.len)

/-- LDY from a resolved operand (R232). -/
def ldy (o : Operand) (s : State) : Result :=
  let m := o.load s
  .next (((s.setY m).setZN m).advance o.len)

/-- Store a register's value through the mode; no flag is written (R233 to R235). -/
def storeReg (v : Byte) (o : Operand) (s : State) : Result :=
  s.commit ((o.store v s).map fun t => t.advance o.len)

/-- `LDA #b` (R230). -/
def execLdaImm (b : Byte) (s : State) : Result := lda (.immediate b) s

/-- `LDA b` (R230). -/
def execLdaZp (b : Byte) (s : State) : Result := lda (.zeroPage b) s

/-- `LDA b,X` (R230). -/
def execLdaZpx (b : Byte) (s : State) : Result := lda (.zeroPageX b s) s

/-- `LDA w` (R230). -/
def execLdaAbs (w : Word) (s : State) : Result := lda (.absolute w) s

/-- `LDA w,X` (R230). -/
def execLdaAbsx (w : Word) (s : State) : Result := lda (.absoluteX w s) s

/-- `LDA w,Y` (R230). -/
def execLdaAbsy (w : Word) (s : State) : Result := lda (.absoluteY w s) s

/-- `LDA (b,X)` (R230). -/
def execLdaIndx (b : Byte) (s : State) : Result := lda (.indexedIndirect b s) s

/-- `LDA (b),Y` (R230). -/
def execLdaIndy (b : Byte) (s : State) : Result := lda (.indirectIndexed b s) s

/-- `LDX #b` (R231). -/
def execLdxImm (b : Byte) (s : State) : Result := ldx (.immediate b) s

/-- `LDX b` (R231). -/
def execLdxZp (b : Byte) (s : State) : Result := ldx (.zeroPage b) s

/-- `LDX b,Y` (R231). -/
def execLdxZpy (b : Byte) (s : State) : Result := ldx (.zeroPageY b s) s

/-- `LDX w` (R231). -/
def execLdxAbs (w : Word) (s : State) : Result := ldx (.absolute w) s

/-- `LDX w,Y` (R231). -/
def execLdxAbsy (w : Word) (s : State) : Result := ldx (.absoluteY w s) s

/-- `LDY #b` (R232). -/
def execLdyImm (b : Byte) (s : State) : Result := ldy (.immediate b) s

/-- `LDY b` (R232). -/
def execLdyZp (b : Byte) (s : State) : Result := ldy (.zeroPage b) s

/-- `LDY b,X` (R232). -/
def execLdyZpx (b : Byte) (s : State) : Result := ldy (.zeroPageX b s) s

/-- `LDY w` (R232). -/
def execLdyAbs (w : Word) (s : State) : Result := ldy (.absolute w) s

/-- `LDY w,X` (R232). -/
def execLdyAbsx (w : Word) (s : State) : Result := ldy (.absoluteX w s) s

/-- `STA b` (R233). -/
def execStaZp (b : Byte) (s : State) : Result := storeReg s.a (.zeroPage b) s

/-- `STA b,X` (R233). -/
def execStaZpx (b : Byte) (s : State) : Result := storeReg s.a (.zeroPageX b s) s

/-- `STA w` (R233). -/
def execStaAbs (w : Word) (s : State) : Result := storeReg s.a (.absolute w) s

/-- `STA w,X` (R233). -/
def execStaAbsx (w : Word) (s : State) : Result := storeReg s.a (.absoluteX w s) s

/-- `STA w,Y` (R233). -/
def execStaAbsy (w : Word) (s : State) : Result := storeReg s.a (.absoluteY w s) s

/-- `STA (b,X)` (R233). -/
def execStaIndx (b : Byte) (s : State) : Result := storeReg s.a (.indexedIndirect b s) s

/-- `STA (b),Y` (R233). -/
def execStaIndy (b : Byte) (s : State) : Result := storeReg s.a (.indirectIndexed b s) s

/-- `STX b` (R234). -/
def execStxZp (b : Byte) (s : State) : Result := storeReg s.x (.zeroPage b) s

/-- `STX b,Y` (R234). -/
def execStxZpy (b : Byte) (s : State) : Result := storeReg s.x (.zeroPageY b s) s

/-- `STX w` (R234). -/
def execStxAbs (w : Word) (s : State) : Result := storeReg s.x (.absolute w) s

/-- `STY b` (R235). -/
def execStyZp (b : Byte) (s : State) : Result := storeReg s.y (.zeroPage b) s

/-- `STY b,X` (R235). -/
def execStyZpx (b : Byte) (s : State) : Result := storeReg s.y (.zeroPageX b s) s

/-- `STY w` (R235). -/
def execStyAbs (w : Word) (s : State) : Result := storeReg s.y (.absolute w) s

end Sys2Proof.Machine
end

