-- ==== Sys2Proof/Machine/Shift.lean ====
section
/-! DEFINITION. ASL, LSR, ROL and ROR (42_shift_rotate.md R130 to R133). -/

namespace Sys2Proof.Machine

/-- Store a shift's result through the mode, C from the bit that left, Z and N from the result (R130 to R133). -/
def shiftWith (o : Operand) (bitOut : Bool) (r : Byte) (s : State) : Result :=
  s.commit ((o.store r s).map fun t => (t.setFlags (t.flags.afterShift bitOut r)).advance o.len)

/-- ASL on a resolved operand (R130). -/
def asl (o : Operand) (s : State) : Result :=
  let v := o.load s
  shiftWith o (v.getLsbD 7) (aslValue v) s

/-- LSR on a resolved operand (R131). -/
def lsr (o : Operand) (s : State) : Result :=
  let v := o.load s
  shiftWith o (v.getLsbD 0) (lsrValue v) s

/-- ROL on a resolved operand, through carry (R132). -/
def rol (o : Operand) (s : State) : Result :=
  let v := o.load s
  shiftWith o (v.getLsbD 7) (rolValue v s.flags.C) s

/-- ROR on a resolved operand, through carry (R133). -/
def ror (o : Operand) (s : State) : Result :=
  let v := o.load s
  shiftWith o (v.getLsbD 0) (rorValue v s.flags.C) s

/-- `ASL A` (R130). -/
def execAslAcc (s : State) : Result := asl .accumulator s

/-- `ASL b` (R130). -/
def execAslZp (b : Byte) (s : State) : Result := asl (.zeroPage b) s

/-- `ASL b,X` (R130). -/
def execAslZpx (b : Byte) (s : State) : Result := asl (.zeroPageX b s) s

/-- `ASL w` (R130). -/
def execAslAbs (w : Word) (s : State) : Result := asl (.absolute w) s

/-- `ASL w,X` (R130). -/
def execAslAbsx (w : Word) (s : State) : Result := asl (.absoluteX w s) s

/-- `LSR A` (R131). -/
def execLsrAcc (s : State) : Result := lsr .accumulator s

/-- `LSR b` (R131). -/
def execLsrZp (b : Byte) (s : State) : Result := lsr (.zeroPage b) s

/-- `LSR b,X` (R131). -/
def execLsrZpx (b : Byte) (s : State) : Result := lsr (.zeroPageX b s) s

/-- `LSR w` (R131). -/
def execLsrAbs (w : Word) (s : State) : Result := lsr (.absolute w) s

/-- `LSR w,X` (R131). -/
def execLsrAbsx (w : Word) (s : State) : Result := lsr (.absoluteX w s) s

/-- `ROL A` (R132). -/
def execRolAcc (s : State) : Result := rol .accumulator s

/-- `ROL b` (R132). -/
def execRolZp (b : Byte) (s : State) : Result := rol (.zeroPage b) s

/-- `ROL b,X` (R132). -/
def execRolZpx (b : Byte) (s : State) : Result := rol (.zeroPageX b s) s

/-- `ROL w` (R132). -/
def execRolAbs (w : Word) (s : State) : Result := rol (.absolute w) s

/-- `ROL w,X` (R132). -/
def execRolAbsx (w : Word) (s : State) : Result := rol (.absoluteX w s) s

/-- `ROR A` (R133). -/
def execRorAcc (s : State) : Result := ror .accumulator s

/-- `ROR b` (R133). -/
def execRorZp (b : Byte) (s : State) : Result := ror (.zeroPage b) s

/-- `ROR b,X` (R133). -/
def execRorZpx (b : Byte) (s : State) : Result := ror (.zeroPageX b s) s

/-- `ROR w` (R133). -/
def execRorAbs (w : Word) (s : State) : Result := ror (.absolute w) s

/-- `ROR w,X` (R133). -/
def execRorAbsx (w : Word) (s : State) : Result := ror (.absoluteX w s) s

end Sys2Proof.Machine
end

