-- ==== Sys2Proof/Machine/Stack.lean ====
section
/-! DEFINITION. PHA, PLA, PHP, PLP, JSR, RTS and RTI (46_stack_subroutine.md R170 to R177). -/

namespace Sys2Proof.Machine

/-- PHA (R170): `Push(A)`. -/
def execPha (s : State) : Result := .next ((s.push s.a).advance 0)

/-- PLA (R171): `A <- Pull()`, Z and N from the value pulled. -/
def execPla (s : State) : Result := .next (((s.pulled.setA s.pullByte).setZN s.pullByte).advance 0)

/-- PHP (R172): `Push(PackP())`, with the stored B. -/
def execPhp (s : State) : Result := .next ((s.push s.flags.packP).advance 0)

/-- PLP (R173): `UnpackP(Pull())`. -/
def execPlp (s : State) : Result := .next ((s.pulled.setFlags (Flags.unpackP s.pullByte)).advance 0)

/-- JSR (R174): push the address of its own last byte, high byte first, then go to the target. -/
def execJsr (w : Word) (s : State) : Result :=
  let ret := s.pc + 2
  .next (((s.push (highByte ret)).push (lowByte ret)).setPC (destAbsolute w))

/-- RTS (R175): pull low then high, PC one past the pulled address. -/
def execRts (s : State) : Result :=
  let lo := s.pullByte
  let hi := s.pulled.pullByte
  .next (s.pulled.pulled.setPC (concat hi lo + 1))

/-- RTI (R176): pull the flags byte, then low, then high; the pulled address as it is. F is not cleared (R257). -/
def execRti (s : State) : Result :=
  let t := s.pulled.setFlags (Flags.unpackP s.pullByte)
  let lo := t.pullByte
  let hi := t.pulled.pullByte
  .next (t.pulled.pulled.setPC (concat hi lo))

end Sys2Proof.Machine
end

