-- ==== Sys2Proof/Machine/Transfer.lean ====
section
/-! DEFINITION. TAX, TXA, TAY, TYA, TSX and TXS (45_transfer.md R160 to R165). -/

namespace Sys2Proof.Machine

/-- TAX (R160): `X <- A`, Z and N from the value. -/
def execTax (s : State) : Result := .next (((s.setX s.a).setZN s.a).advance 0)

/-- TXA (R161): `A <- X`, Z and N from the value. -/
def execTxa (s : State) : Result := .next (((s.setA s.x).setZN s.x).advance 0)

/-- TAY (R162): `Y <- A`, Z and N from the value. -/
def execTay (s : State) : Result := .next (((s.setY s.a).setZN s.a).advance 0)

/-- TYA (R163): `A <- Y`, Z and N from the value. -/
def execTya (s : State) : Result := .next (((s.setA s.y).setZN s.y).advance 0)

/-- TSX (R164): `X <- SP`, Z and N from the value. -/
def execTsx (s : State) : Result := .next (((s.setX s.sp).setZN s.sp).advance 0)

/-- TXS (R165): `SP <- X`, no flag written. -/
def execTxs (s : State) : Result := .next ((s.setSP s.x).advance 0)

end Sys2Proof.Machine
end

