-- ==== Sys2Proof/Machine/Fetch.lean ====
section
/-! DEFINITION. Fetching and placing an instruction's bytes, which live in M with everything else (30_encoding.md R84,
R85; 20_memory.md R69). -/

namespace Sys2Proof.Machine

/-- What the decoder reads at PC in the present memory (R5, R69). -/
def State.decodeHere (s : State) : Decoded := s.mem.decodeAt s.pc

/-- The host loads a byte string at an address (70_reset_and_hazards.md R273). -/
def State.load (s : State) (a : Word) (bytes : List Byte) : State := { s with mem := s.mem.load a bytes }

/-- The three bytes of an instruction word of the opcode table, stored where the next step fetches, with F = None so that
a step is taken (R24); the host's doing, not the core's (log 5). -/
def State.placeTableWord (s : State) (nbits w : Nat) : State :=
  { s.load s.pc [tableByte nbits w 0, tableByte nbits w 1, tableByte nbits w 2] with fault := none }

end Sys2Proof.Machine
end

