-- ==== Sys2Proof/Machine/Step.lean ====
section
/-! DEFINITION. One step of the core (00_scope.md R5): decode at PC, then evaluate. -/

namespace Sys2Proof.Machine

/-- One step (R5). While F is not None the core takes no step: the machine has stopped with that fault (R24, R254). An
illegal opcode byte raises IllegalOpcode at decode time: F takes it and nothing else changes (R251, R254; log 4). -/
def step (s : State) : Host.Outcome State Fault Refusal :=
  match s.fault with
  | some f => .fault f
  | none =>
    match s.decodeHere with
    | .instr i => exec i s
    | .illegalOpcode op => .next (s.raise (.illegalOpcode s.pc op))

/-- The state with an instruction word of spec/opcode_table.json placed where the next step fetches (log 5). -/
def State.withFetchWord (s : State) (nbits w : Nat) : State := s.placeTableWord nbits w

end Sys2Proof.Machine
end

