-- ==== Sys2Proof/Safety.lean ====
section
/-! DEFINITION. What counts as a good state and as the end of a run, and the few words the statements are written in. -/

namespace Sys2Proof.Machine

/-- What F records is true of the state it stopped in (60_exceptions.md R251, R252, R254): PC still addresses the faulting
instruction's opcode byte, and that byte is the illegal one, or the opcode of `ORA #` or `EOR #`. -/
def State.faultAccurate (s : State) : Prop :=
  match s.fault with
  | none => True
  | some (.illegalOpcode pc op) => pc = s.pc ∧ op = s.mem.read s.pc ∧ opcodeCell op = none
  | some (.invalidOperation pc) => pc = s.pc ∧ (s.mem.read s.pc = 0x09 ∨ s.mem.read s.pc = 0x49)

/-- The invariant of the machine: memory is in its canonical form (log 6) and F is accurate. -/
def State.Inv (s : State) : Prop := s.mem.wf = true ∧ s.faultAccurate

/-- How a run stands (70_reset_and_hazards.md R274): ended by the host's STOP, ended abnormally by a fault, or, when the
count of steps is used up, still running. The last constructor is for an instruction that has no meaning; none is. -/
inductive RunEnd where
  | stopped (s : State)
  | faulted (s : State) (f : Fault)
  | running (s : State)
  | refused (r : Refusal)
  deriving DecidableEq, Repr

/-- A run of at most n steps under the host's stop condition, evaluated between steps; a fault comes before it (R274;
log 7). -/
def runUntil (stop : State → Bool) : Nat → State → RunEnd
  | 0, s =>
    match s.fault with
    | some f => .faulted s f
    | none => if stop s then .stopped s else .running s
  | n + 1, s =>
    match s.fault with
    | some f => .faulted s f
    | none =>
      if stop s then .stopped s
      else
        match step s with
        | .next t => runUntil stop n t
        | .fault f => .faulted s f
        | .refused r => .refused r

/-- The same instruction evaluated n times, without fetching: n times `Evaluate` of R5. -/
def execTimes (i : Instr) : Nat → State → Result
  | 0, s => .next s
  | n + 1, s =>
    match exec i s with
    | .next t => execTimes i n t
    | .fault f => .fault f
    | .refused r => .refused r

/-- `PC <- (PC + n) mod 65536` (R8). -/
def AdvancesBy (s t : State) (n : Nat) : Prop := t.pc.toNat = (s.pc.toNat + n) % 65536

/-- Z and N are those of a value: Z when it is 0, N when its bit 7 is 1 (R20). -/
def ZNOf (v : Byte) (f : Flags) : Prop := (f.Z = true ↔ v.toNat = 0) ∧ (f.N = true ↔ 128 ≤ v.toNat)

/-- Memory after differs from memory before in at most one byte: the one at a is v, every other reads as before. -/
def MemoryOnlyAt (s t : State) (a : Word) (v : Byte) : Prop :=
  t.mem.read a = v ∧ ∀ b, b ≠ a → t.mem.read b = s.mem.read b

/-- The signed reading of a byte (R7): v below 128, v - 256 otherwise. -/
def signedReading (v : Byte) : Int := if v.toNat < 128 then (v.toNat : Int) else (v.toNat : Int) - 256

/-- What a shift or rotate does with the result r and the bit that left, whether its place is A or a byte of memory
(42_shift_rotate.md, introduction). -/
def ShiftsTo (i : Instr) (s t : State) (r : Byte) (bitOut : Bool) : Prop :=
  t.flags.C = bitOut ∧ ZNOf r t.flags ∧ AdvancesBy s t (1 + i.mode.len) ∧
  (operandOf i.mode s = some ⟨.accumulator, i.mode.len⟩ ∧ t = { s with a := r, pc := t.pc, flags := { s.flags with C := t.flags.C, Z := t.flags.Z, N := t.flags.N } } ∨
    ∃ ea, operandOf i.mode s = some ⟨.memory ea, i.mode.len⟩ ∧ MemoryOnlyAt s t ea r ∧
      t = { s with mem := t.mem, pc := t.pc, flags := { s.flags with C := t.flags.C, Z := t.flags.Z, N := t.flags.N } })

end Sys2Proof.Machine
end

