-- ==== Sys2Proof/Certificates/Slice0/Obligations.lean ====
section
/-! DEFINITION. The statements for the provers. `i.mnemonic = .ADC` ranges over every form of ADC; `operandOf i.mode s`
is the form's operand resolved in the state before the instruction (20_memory.md R64, R65); a conclusion
`t = { s with … }` is the frame: every field of the state and every flag it does not name is unchanged. -/

open Sys2Proof Sys2Proof.Machine

/-! ## Encoding and decoding -/

/-- 30_encoding.md R90, first half (which the spec derives from R84, R89, R93): Decode undoes Encode, for every
instruction, at every address, wrapping past 0xFFFF, and the length is `1 + len(mode)`. -/
def Obligations.DecodeOfEncodeGivesTheInstruction : Prop :=
  (∀ (i : Instr) (m : Memory) (pc : Word),
    (∀ (k : Nat) (h : k < (encode i).length), m.read (BitVec.ofNat 16 ((pc.toNat + k) % 65536)) = (encode i)[k]) →
    m.decodeAt pc = .instr i) ∧
  (∀ i : Instr, (encode i).length = 1 + i.mode.len)

/-- 30_encoding.md R90, second half (derived there): Encode undoes Decode, and no two byte strings decode to the same
instruction. -/
def Obligations.EncodeOfDecodeGivesTheBytes : Prop :=
  (∀ (i : Instr) (m : Memory) (pc : Word), m.decodeAt pc = .instr i →
    ∀ (k : Nat) (h : k < (encode i).length),
      (encode i)[k] = m.read (BitVec.ofNat 16 ((pc.toNat + k) % 65536))) ∧
  (∀ i j : Instr, encode i = encode j → i = j)

/-- 30_encoding.md R89. -/
def Obligations.EncodingIsOpcodeThenOperandBytes : Prop :=
  ∀ i : Instr, ∃ op : Byte, opcodeCell op = some (i.mnemonic, i.mode.kind) ∧
    encode i = op ::
      (match i.mode with
      | .implied | .accumulator => []
      | .immediate b | .zeroPage b | .zeroPageX b | .zeroPageY b | .indexedIndirect b | .indirectIndexed b
      | .relative b => [b]
      | .absolute w | .absoluteX w | .absoluteY w | .indirect w =>
        [BitVec.ofNat 8 (w.toNat % 256), BitVec.ofNat 8 (w.toNat / 256)])

/-- 30_encoding.md R88: the legal pairs are exactly the 151 rows, each with one opcode; every instruction is a legal pair
and every legal pair is an instruction.
But for ADC and JMP the pairs are the spec's own (R88, R93: D22, log 8). -/
def Obligations.LegalPairsAreTheRowsOfTheTable : Prop :=
  (∀ (mn : Mnemonic) (k : ModeKind), (∃ op, opcodeCell op = some (mn, k)) ↔ k ∈ legalKinds mn) ∧
  (∀ (op op' : Byte) (c : Mnemonic × ModeKind), opcodeCell op = some c → opcodeCell op' = some c → op = op') ∧
  ((List.range 256).filter fun n => (opcodeCell (BitVec.ofNat 8 n)).isSome).length = 151 ∧
  (∀ i : Instr, i.wellFormed = true) ∧
  (∀ (mn : Mnemonic) (m : Mode), legalPair mn m = true → ∃ i : Instr, i.mnemonic = mn ∧ i.mode = m)

/-- 30_encoding.md R87. -/
def Obligations.InstructionsAreEqualWhenTheirPairsAre : Prop :=
  (∀ i j : Instr, i = j ↔ i.mnemonic = j.mnemonic ∧ i.mode = j.mode) ∧
  (∀ i : Instr, i.mode.kind ∈ legalKinds i.mnemonic)

/-- 30_encoding.md R84 and R85, with the operand assembly of R82. -/
def Obligations.DecodeReadsOpcodeThenOperandBytes : Prop :=
  (∀ hi lo : Byte, (concat hi lo).toNat = lo.toNat + 256 * hi.toNat) ∧
  ∀ (m : Memory) (pc : Word),
    let b1 := m.read (BitVec.ofNat 16 ((pc.toNat + 1) % 65536))
    let b2 := m.read (BitVec.ofNat 16 ((pc.toNat + 2) % 65536))
    match opcodeCell (m.read pc) with
    | none => m.decodeAt pc = .illegalOpcode (m.read pc)
    | some (mn, k) => ∃ i : Instr, m.decodeAt pc = .instr i ∧ i.mnemonic = mn ∧ i.mode.kind = k ∧
        i.mode = (match k with
          | .implied => .implied
          | .accumulator => .accumulator
          | .immediate => .immediate b1
          | .zeroPage => .zeroPage b1
          | .zeroPageX => .zeroPageX b1
          | .zeroPageY => .zeroPageY b1
          | .absolute => .absolute (concat b2 b1)
          | .absoluteX => .absoluteX (concat b2 b1)
          | .absoluteY => .absoluteY (concat b2 b1)
          | .indirect => .indirect (concat b2 b1)
          | .indexedIndirect => .indexedIndirect b1
          | .indirectIndexed => .indirectIndexed b1
          | .relative => .relative b1)

/-- 30_encoding.md R96 and 60_exceptions.md R251: the 105 illegal bytes, and that each raises IllegalOpcode with its
address and itself, PC not advanced, and is no no-op. -/
def Obligations.IllegalBytesRaiseIllegalOpcode : Prop :=
  let illegal : List Byte :=
  [0x02, 0x03, 0x04, 0x07, 0x0B, 0x0C, 0x0F, 0x12, 0x13, 0x14, 0x17, 0x1A, 0x1B, 0x1C, 0x1F,
   0x22, 0x23, 0x27, 0x2B, 0x2F, 0x32, 0x33, 0x34, 0x37, 0x3A, 0x3B, 0x3C, 0x3F, 0x42, 0x43,
   0x44, 0x47, 0x4B, 0x4F, 0x52, 0x53, 0x54, 0x57, 0x5A, 0x5B, 0x5C, 0x5F, 0x62, 0x63, 0x64,
   0x67, 0x6B, 0x6F, 0x72, 0x73, 0x74, 0x77, 0x7A, 0x7B, 0x7C, 0x7F, 0x80, 0x82, 0x83, 0x87,
   0x89, 0x8B, 0x8F, 0x92, 0x93, 0x97, 0x9B, 0x9C, 0x9E, 0x9F, 0xA3, 0xA7, 0xAB, 0xAF, 0xB2,
   0xB3, 0xB7, 0xBB, 0xBF, 0xC2, 0xC3, 0xC7, 0xCB, 0xCF, 0xD2, 0xD3, 0xD4, 0xD7, 0xDA, 0xDB,
   0xDC, 0xDF, 0xE2, 0xE3, 0xE7, 0xEB, 0xEF, 0xF2, 0xF3, 0xF4, 0xF7, 0xFA, 0xFB, 0xFC, 0xFF]
  illegal.length = 105 ∧
  (∀ op : Byte, opcodeCell op = none ↔ op ∈ illegal) ∧
  (∀ s : State, s.fault = none → s.mem.read s.pc ∈ illegal →
    s.decodeHere = .illegalOpcode (s.mem.read s.pc) ∧
    step s = .next { s with fault := some (.illegalOpcode s.pc (s.mem.read s.pc)) })

/-- Words written out from the spec's encodings (95_test_vectors.md E1 to E16) decode to what they stand for. A sanity
statement. -/
def Obligations.SampleWordsDecode : Prop :=
  decodeTableWord 16 0x0569 = some (.adcImm 0x05) ∧ decodeTableWord 24 0x12344C = some (.jmpAbs 0x1234) ∧
  decodeTableWord 24 0x12FF6C = some (.jmpInd 0x12FF) ∧ decodeTableWord 8 0x0A = some .aslAcc ∧
  decodeTableWord 16 0xF9D0 = some (.bne 0xF9) ∧ decodeTableWord 16 0x10B6 = some (.ldxZpy 0x10) ∧
  decodeTableWord 16 0x20A1 = some (.ldaIndx 0x20) ∧ decodeTableWord 16 0x2291 = some (.staIndy 0x22) ∧
  decodeTableWord 24 0x3000BE = some (.ldxAbsy 0x3000) ∧ decodeTableWord 8 0x00 = some .brk ∧
  decodeTableWord 8 0x02 = none

/-- The word of spec/opcode_table.json's numbering that withFetchWord places is the instruction the next step runs, in
every state; registers and flags stay. How a program comes into memory is the model's choice (log 5). -/
def Obligations.PlacedWordIsTheNextInstruction : Prop :=
  ∀ (s : State) (nbits w : Nat),
    (∀ i : Instr, decodeTableWord nbits w = some i →
      step (s.withFetchWord nbits w) = exec i (s.withFetchWord nbits w)) ∧
    s.withFetchWord nbits w = { s with mem := (s.withFetchWord nbits w).mem, fault := none } ∧
    (∀ a : Word, (∀ k : Nat, k < 3 → a.toNat ≠ (s.pc.toNat + k) % 65536) →
      (s.withFetchWord nbits w).mem.read a = s.mem.read a)

/-! ## The step, the faults and the run -/

/-- 00_scope.md R5: a step is Decode then Evaluate. Where the bytes at PC are an instruction's, the step is that
instruction's evaluation; a raise of Decode sets F alone; while F is not None no step is taken (which the model answers
as a fault with what F holds, log 4). -/
def Obligations.StepEvaluatesTheDecodedInstruction : Prop :=
  (∀ (s : State) (i : Instr), s.fault = none → s.decodeHere = .instr i → step s = exec i s) ∧
  (∀ (s : State) (i : Instr), s.fault = none →
    (∀ (k : Nat) (h : k < (encode i).length), s.mem.read (BitVec.ofNat 16 ((s.pc.toNat + k) % 65536)) = (encode i)[k]) →
    step s = exec i s) ∧
  (∀ (s : State) (op : Byte), s.fault = none → s.decodeHere = .illegalOpcode op →
    step s = .next { s with fault := some (.illegalOpcode s.pc op) }) ∧
  (∀ (s : State) (f : Fault), s.fault = some f → step s = .fault f)

/-- 60_exceptions.md R254: a raise changes F alone, PC still addresses the faulting instruction, the faulted state takes no
step, and no instruction clears F.
That a step of the faulted state answers a fault is the model's form of it (log 4). -/
def Obligations.FaultEntryChangesOnlyTheFaultStatus : Prop :=
  (∀ (s t : State) (f : Fault), s.fault = none → step s = .next t → t.fault = some f →
    t = { s with fault := some f } ∧ step t = .fault f) ∧
  (∀ (i : Instr) (s t : State), s.fault ≠ none → exec i s = .next t → t.fault ≠ none)

/-- 60_exceptions.md R252: exactly `ORA #` and `EOR #` raise InvalidOperation, always, with the address of their opcode
byte and nothing else changed. -/
def Obligations.OnlyOraAndEorImmediateRaise : Prop :=
  (∀ (b : Byte) (s : State),
    exec (.oraImm b) s = .next { s with fault := some (.invalidOperation s.pc) } ∧
    exec (.eorImm b) s = .next { s with fault := some (.invalidOperation s.pc) }) ∧
  (∀ (i : Instr) (s t : State), s.fault = none → exec i s = .next t →
    (t.fault ≠ none ↔ (∃ b, i = .oraImm b) ∨ (∃ b, i = .eorImm b)))

/-- 70_reset_and_hazards.md R275 and 60_exceptions.md R253 (derived there): the core is never stuck; every evaluation, and
every step from F = None, answers a next state. -/
def Obligations.RunningMachineAlwaysSteps : Prop :=
  (∀ s : State, s.fault = none → ∃ t, step s = .next t) ∧
  (∀ (i : Instr) (s : State), ∃ t, exec i s = .next t)

/-- 70_reset_and_hazards.md R274: a run ends by a fault or by the host's STOP and in no other way. That STOP is looked at
before the first step and after a fault is the model's choice (log 7); that a step of the faulted state answers the fault
is the model's form of taking no step (log 4). -/
def Obligations.RunEndsOnlyByFaultOrStop : Prop :=
  ∀ (stop : State → Bool) (n : Nat) (s : State),
    (∃ t, runUntil stop n s = .stopped t ∧ stop t = true ∧ t.fault = none) ∨
    (∃ t f, runUntil stop n s = .faulted t f ∧ t.fault = some f ∧ step t = .fault f) ∨
    (∃ t, runUntil stop n s = .running t ∧ stop t = false ∧ t.fault = none ∧ ∃ u, step t = .next u)

/-- The invariant is kept by every step, from every state that has it: memory stays canonical (log 6) and F tells the truth
about where and why the run stopped (60_exceptions.md R251, R252, R254). -/
def Obligations.EveryStepKeepsTheInvariant : Prop :=
  ∀ s t : State, s.Inv → step s = .next t → t.Inv

/-- The invariant holds at reset. -/
def Obligations.ResetMeetsTheInvariant : Prop := State.reset.Inv ∧ State.reset.fault = none

/-! ## Memory, stack, launch -/

/-- Two canonical memories that read alike at every address are the same data (the model's representation of M, log 6). -/
def Obligations.CanonicalMemoriesThatReadAlikeAreEqual : Prop :=
  ∀ m m' : Memory, m.wf = true → m'.wf = true → (∀ a, m.read a = m'.read a) → m = m'

/-- 20_memory.md R45 and R43: Read16 is little-endian and linear modulo 65,536.
Linear is the spec's decision (D20, log 8). -/
def Obligations.ReadSixteenIsLittleEndianAndLinear : Prop :=
  ∀ (m : Memory) (a : Word),
    (m.read16 a).toNat = (m.read a).toNat + 256 * (m.read (BitVec.ofNat 16 ((a.toNat + 1) % 65536))).toNat

/-- 20_memory.md R47 and R48. -/
def Obligations.PushAndPullAreInverse : Prop :=
  ∀ (s : State) (v : Byte),
    let t := s.push v
    (stackAddr s.sp).toNat = 0x0100 + s.sp.toNat ∧
    MemoryOnlyAt s t (stackAddr s.sp) v ∧ t.sp.toNat = (s.sp.toNat + 255) % 256 ∧
    t = { s with mem := t.mem, sp := t.sp } ∧
    s.pulled.sp.toNat = (s.sp.toNat + 1) % 256 ∧ s.pulled = { s with sp := s.pulled.sp } ∧
    s.pullByte = s.mem.read (BitVec.ofNat 16 (0x0100 + (s.sp.toNat + 1) % 256)) ∧
    t.pullByte = v ∧ t.pulled.sp = s.sp

/-- 20_memory.md R49 (derived there): however many bytes are pushed, only the stack page is written and SP wraps; the push
after 256 others overwrites the first. -/
def Obligations.PushesStayInTheStackPage : Prop :=
  ∀ (vs : List Byte) (s : State),
    let t := vs.foldl State.push s
    t.sp.toNat = (s.sp.toNat + 255 * vs.length) % 256 ∧
    (∀ a : Word, (a.toNat < 0x0100 ∨ 0x01FF < a.toNat) → t.mem.read a = s.mem.read a) ∧
    t = { s with mem := t.mem, sp := t.sp } ∧
    (vs.length = 256 → ∀ v, (t.push v).mem.read (stackAddr s.sp) = v)

/-- 70_reset_and_hazards.md R273. -/
def Obligations.LoadPlacesEveryByte : Prop :=
  ∀ (s : State) (a : Word) (bytes : List Byte), bytes.length ≤ 65536 →
    (∀ (k : Nat) (h : k < bytes.length),
      (s.load a bytes).mem.read (BitVec.ofNat 16 ((a.toNat + k) % 65536)) = bytes[k]) ∧
    (∀ c : Word, (∀ k : Nat, k < bytes.length → c.toNat ≠ (a.toNat + k) % 65536) →
      (s.load a bytes).mem.read c = s.mem.read c) ∧
    s.load a bytes = { s with mem := (s.load a bytes).mem }

/-- A launch sets every cell from its parameter (10_state.md R26, 70_reset_and_hazards.md R270); the parameters the host
leaves unset take the defaults the spec offers as its own choice (R271; logs 2, 3), and reset is that launch at the PC the
model chose (log 1). -/
def Obligations.LaunchSetsEveryCell : Prop :=
  (∀ l : Launch,
    State.launch l = {
      pc := l.initPC, sp := l.initSP, a := l.initA, x := l.initX, y := l.initY, flags := l.initP, mem := l.initMem,
      fault := none }) ∧
  (∀ p : Word,
    let s := State.launch { initPC := p }
    s.pc = p ∧ s.sp = 0xFF ∧ s.a = 0 ∧ s.x = 0 ∧ s.y = 0 ∧ s.fault = none ∧
    s.flags.C = false ∧ s.flags.Z = false ∧ s.flags.I = false ∧ s.flags.D = false ∧ s.flags.B = false ∧
    s.flags.V = false ∧ s.flags.N = false ∧ ∀ a, s.mem.read a = 0) ∧
  State.reset = State.launch { initPC := 0x0200 }

/-- 20_memory.md R69: a fetch anywhere sees a store made by the instruction before it, its own bytes included. -/
def Obligations.NextFetchSeesTheStore : Prop :=
  ∀ (s t : State) (w : Word), s.fault = none → s.decodeHere = .instr (.staAbs w) → step s = .next t →
    ∀ pc : Word, t.mem.decodeAt pc =
      decode fun k =>
        let a := BitVec.ofNat 16 ((pc.toNat + k) % 65536)
        if a = w then s.a else s.mem.read a

/-! ## Addressing modes and the flags byte -/

/-- 20_memory.md R53, R54, R55. -/
def Obligations.ZeroPageModesStayInTheZeroPage : Prop :=
  (∀ (s : State) (b : Byte), ∃ e ex ey : Word,
    operandOf (.zeroPage b) s = some ⟨.memory e, 1⟩ ∧ e.toNat = b.toNat ∧
    operandOf (.zeroPageX b) s = some ⟨.memory ex, 1⟩ ∧ ex.toNat = (b.toNat + s.x.toNat) % 256 ∧
    operandOf (.zeroPageY b) s = some ⟨.memory ey, 1⟩ ∧ ey.toNat = (b.toNat + s.y.toNat) % 256 ∧
    (∀ a ∈ [e, ex, ey], a.toNat ≤ 0x00FF ∧ (Operand.mk (.memory a) 1).load s = s.mem.read a ∧
      ∀ v, ∃ t, (Operand.mk (.memory a) 1).store v s = .ok t ∧ MemoryOnlyAt s t a v ∧ t = { s with mem := t.mem })) ∧
  (∀ s : State, s.x = 0x02 → operandOf (.zeroPageX 0xFF) s = some ⟨.memory 0x0001, 1⟩) ∧
  (∀ i : Instr, i.mode.kind = .zeroPageY → i.mnemonic = .LDX ∨ i.mnemonic = .STX)

/-- 20_memory.md R56, R57, R58. -/
def Obligations.AbsoluteModesAddModuloSixtyFourK : Prop :=
  ∀ (s : State) (w : Word), ∃ ex ey : Word,
    operandOf (.absolute w) s = some ⟨.memory w, 2⟩ ∧ destOf (.absolute w) s = some w ∧
    operandOf (.absoluteX w) s = some ⟨.memory ex, 2⟩ ∧ ex.toNat = (w.toNat + s.x.toNat) % 65536 ∧
    operandOf (.absoluteY w) s = some ⟨.memory ey, 2⟩ ∧ ey.toNat = (w.toNat + s.y.toNat) % 65536 ∧
    (∀ a ∈ [w, ex, ey], (Operand.mk (.memory a) 2).load s = s.mem.read a ∧
      ∀ v, ∃ t, (Operand.mk (.memory a) 2).store v s = .ok t ∧ MemoryOnlyAt s t a v ∧ t = { s with mem := t.mem })

/-- 20_memory.md R59, R60, R61: pointers are read low then high at the next linear address.
Linear is the spec's decision (D20, log 8). -/
def Obligations.IndirectModesFollowLinearPointers : Prop :=
  (∀ (s : State) (b : Byte) (w : Word),
    let pointer := fun n : Nat =>
      (s.mem.read (BitVec.ofNat 16 n)).toNat + 256 * (s.mem.read (BitVec.ofNat 16 ((n + 1) % 65536))).toNat
    ∃ d ex ey : Word,
      destOf (.indirect w) s = some d ∧ d.toNat = pointer w.toNat ∧ operandOf (.indirect w) s = none ∧
      operandOf (.indexedIndirect b) s = some ⟨.memory ex, 1⟩ ∧ ex.toNat = pointer ((b.toNat + s.x.toNat) % 256) ∧
      operandOf (.indirectIndexed b) s = some ⟨.memory ey, 1⟩ ∧
      ey.toNat = (pointer b.toNat + s.y.toNat) % 65536 ∧
      (∀ a ∈ [ex, ey], (Operand.mk (.memory a) 1).load s = s.mem.read a ∧
        ∀ v, ∃ t, (Operand.mk (.memory a) 1).store v s = .ok t ∧ MemoryOnlyAt s t a v ∧ t = { s with mem := t.mem })) ∧
  (∀ i : Instr, i.mode.kind = .indirect → i.mnemonic = .JMP)

/-- 20_memory.md R51 and R64: what each mode supports.
Answering none for the blank cells is the model's (log 9). -/
def Obligations.ModesSupportTheirOperations : Prop :=
  (∀ (m : Mode) (s : State),
    match m.kind with
    | .accumulator => operandOf m s = some ⟨.accumulator, 0⟩ ∧ destOf m s = none
    | .immediate => ∃ b, m = .immediate b ∧ operandOf m s = some ⟨.literal b, 1⟩ ∧ destOf m s = none
    | .zeroPage | .zeroPageX | .zeroPageY | .indexedIndirect | .indirectIndexed =>
      (∃ ea, operandOf m s = some ⟨.memory ea, 1⟩) ∧ destOf m s = none
    | .absoluteX | .absoluteY => (∃ ea, operandOf m s = some ⟨.memory ea, 2⟩) ∧ destOf m s = none
    | .absolute => ∃ w, m = .absolute w ∧ operandOf m s = some ⟨.memory w, 2⟩ ∧ destOf m s = some w
    | .indirect => ∃ w, m = .indirect w ∧ operandOf m s = none ∧ destOf m s = some (s.mem.read16 w)
    | .implied | .relative => operandOf m s = none ∧ destOf m s = none) ∧
  (∀ (s : State) (n : Nat) (b v : Byte) (ea : Word),
    (Operand.mk .accumulator n).load s = s.a ∧ (Operand.mk .accumulator n).store v s = .ok { s with a := v } ∧
    (Operand.mk (.literal b) n).load s = b ∧
    (Operand.mk (.literal b) n).store v s = .error (.invalidOperation s.pc) ∧
    (Operand.mk (.memory ea) n).load s = s.mem.read ea ∧
    ∃ t, (Operand.mk (.memory ea) n).store v s = .ok t ∧ MemoryOnlyAt s t ea v ∧ t = { s with mem := t.mem }) ∧
  (∀ i : Instr, i.mode.kind = .accumulator → i.mnemonic ∈ [.ASL, .LSR, .ROL, .ROR])

/-- 10_state.md R20, R21, R22.
The layout is the spec's own (D15, D16, log 8). -/
def Obligations.FlagsBytePacksAndUnpacks : Prop :=
  (∀ f : Flags, f.packP.toNat = f.N.toNat * 128 + f.V.toNat * 64 + 32 + f.B.toNat * 16 + f.D.toNat * 8 +
    f.I.toNat * 4 + f.Z.toNat * 2 + f.C.toNat) ∧
  (∀ b : Byte, let f := Flags.unpackP b
    f.N = b.getLsbD 7 ∧ f.V = b.getLsbD 6 ∧ f.B = b.getLsbD 4 ∧ f.D = b.getLsbD 3 ∧ f.I = b.getLsbD 2 ∧
    f.Z = b.getLsbD 1 ∧ f.C = b.getLsbD 0) ∧
  (∀ f : Flags, Flags.unpackP f.packP = f) ∧
  (∀ b : Byte, (Flags.unpackP b).packP = b ||| 0x20) ∧
  (∀ (f : Flags) (v : Byte), ZNOf v (f.setZN v) ∧
    f.setZN v = { f with Z := (f.setZN v).Z, N := (f.setZN v).N })

/-! ## The instructions: result, flags, completion and frame -/

/-- 40_arithmetic.md R110, all eight forms. V is stated both ways the rule gives it.
The flag rule is the one the spec takes (D4, log 8). -/
def Obligations.AdcAddsOperandAndCarry : Prop :=
  formsOf .ADC = [(0x61, .indexedIndirect), (0x65, .zeroPage), (0x69, .immediate), (0x6D, .absolute),
      (0x71, .indirectIndexed), (0x75, .zeroPageX), (0x79, .absoluteY), (0x7D, .absoluteX)] ∧
  ∀ (i : Instr) (s : State), i.mnemonic = .ADC → ∃ o t, operandOf i.mode s = some o ∧ exec i s = .next t ∧
    let m := o.load s
    let sum := s.a.toNat + m.toNat + s.flags.C.toNat
    let signedSum := signedReading s.a + signedReading m + (s.flags.C.toNat : Int)
    t.a.toNat = sum % 256 ∧ (t.flags.C = true ↔ sum > 255) ∧
    (t.flags.V = true ↔ signedSum < -128 ∨ 127 < signedSum) ∧
    t.flags.V = ((s.a ^^^ t.a) &&& (m ^^^ t.a)).getLsbD 7 ∧ ZNOf t.a t.flags ∧ AdvancesBy s t (1 + i.mode.len) ∧
    t = { s with
      a := t.a, pc := t.pc,
      flags := { s.flags with C := t.flags.C, V := t.flags.V, Z := t.flags.Z, N := t.flags.N } }

/-- 40_arithmetic.md R111, all eight forms: no borrow in, carry is no borrow out.
That C is not read and what C means after are as the spec reads its source (D4, D5, log 8). -/
def Obligations.SbcSubtractsWithoutBorrow : Prop :=
  formsOf .SBC = [(0xE1, .indexedIndirect), (0xE5, .zeroPage), (0xE9, .immediate), (0xED, .absolute),
      (0xF1, .indirectIndexed), (0xF5, .zeroPageX), (0xF9, .absoluteY), (0xFD, .absoluteX)] ∧
  (∀ (i : Instr) (s : State), i.mnemonic = .SBC → ∃ o t, operandOf i.mode s = some o ∧ exec i s = .next t ∧
    let m := o.load s
    let signedDiff := signedReading s.a - signedReading m
    t.a.toNat = (s.a.toNat + 256 - m.toNat) % 256 ∧ (t.flags.C = true ↔ m.toNat ≤ s.a.toNat) ∧
    (t.flags.V = true ↔ signedDiff < -128 ∨ 127 < signedDiff) ∧
    t.flags.V = ((s.a ^^^ m) &&& (s.a ^^^ t.a)).getLsbD 7 ∧ ZNOf t.a t.flags ∧ AdvancesBy s t (1 + i.mode.len) ∧
    t = { s with
      a := t.a, pc := t.pc,
      flags := { s.flags with C := t.flags.C, V := t.flags.V, Z := t.flags.Z, N := t.flags.N } }) ∧
  (∀ (i : Instr) (s : State) (c : Bool), i.mnemonic = .SBC →
    exec i { s with flags := { s.flags with C := c } } = exec i s)

/-- 41_logical.md R120, all eight forms.
The flags are the spec's decision (D7, log 8). -/
def Obligations.AndWritesTheAccumulator : Prop :=
  formsOf .AND = [(0x21, .indexedIndirect), (0x25, .zeroPage), (0x29, .immediate), (0x2D, .absolute),
      (0x31, .indirectIndexed), (0x35, .zeroPageX), (0x39, .absoluteY), (0x3D, .absoluteX)] ∧
  ∀ (i : Instr) (s : State), i.mnemonic = .AND → ∃ o t, operandOf i.mode s = some o ∧ exec i s = .next t ∧
    (∀ n : Nat, t.a.getLsbD n = (s.a.getLsbD n && (o.load s).getLsbD n)) ∧ ZNOf t.a t.flags ∧
    AdvancesBy s t (1 + i.mode.len) ∧ t = { s with a := t.a, pc := t.pc, flags := { s.flags with Z := t.flags.Z, N := t.flags.N } }

/-- 41_logical.md R121 and R122 (and the asymmetry of R123): the memory forms write memory and not A, the Immediate form
raises with no state changed. That A is unchanged rests on the spec's decision D8 (91_not_in_source.md N9).
The flags rest on D7, the Immediate forms on D9 (log 8). -/
def Obligations.OraAndEorWriteBackThroughTheMode : Prop :=
  formsOf .ORA = [(0x01, .indexedIndirect), (0x05, .zeroPage), (0x09, .immediate), (0x0D, .absolute),
      (0x11, .indirectIndexed), (0x15, .zeroPageX), (0x19, .absoluteY), (0x1D, .absoluteX)] ∧
  formsOf .EOR = [(0x41, .indexedIndirect), (0x45, .zeroPage), (0x49, .immediate), (0x4D, .absolute),
      (0x51, .indirectIndexed), (0x55, .zeroPageX), (0x59, .absoluteY), (0x5D, .absoluteX)] ∧
  (∀ (b : Byte) (s : State),
    exec (.oraImm b) s = .next { s with fault := some (.invalidOperation s.pc) } ∧
    exec (.eorImm b) s = .next { s with fault := some (.invalidOperation s.pc) }) ∧
  ∀ (i : Instr) (s : State), i.mnemonic = .ORA ∨ i.mnemonic = .EOR → i.mode.kind ≠ .immediate →
    ∃ ea t, operandOf i.mode s = some ⟨.memory ea, i.mode.len⟩ ∧ exec i s = .next t ∧
      let r := t.mem.read ea
      (i.mnemonic = .ORA → ∀ n : Nat, r.getLsbD n = (s.a.getLsbD n || (s.mem.read ea).getLsbD n)) ∧
      (i.mnemonic = .EOR → ∀ n : Nat, r.getLsbD n = (s.a.getLsbD n ^^ (s.mem.read ea).getLsbD n)) ∧
      MemoryOnlyAt s t ea r ∧ ZNOf r t.flags ∧ AdvancesBy s t (1 + i.mode.len) ∧
      t = { s with mem := t.mem, pc := t.pc, flags := { s.flags with Z := t.flags.Z, N := t.flags.N } }

/-- 42_shift_rotate.md R130 and R131, all five forms of each.
The flags are the spec's decision (D7, log 8). -/
def Obligations.AslAndLsrShiftByOne : Prop :=
  formsOf .ASL = [(0x06, .zeroPage), (0x0A, .accumulator), (0x0E, .absolute), (0x16, .zeroPageX),
      (0x1E, .absoluteX)] ∧
  formsOf .LSR = [(0x46, .zeroPage), (0x4A, .accumulator), (0x4E, .absolute), (0x56, .zeroPageX),
      (0x5E, .absoluteX)] ∧
  ∀ (i : Instr) (s : State), i.mnemonic = .ASL ∨ i.mnemonic = .LSR → ∃ o t r, operandOf i.mode s = some o ∧
    exec i s = .next t ∧
    let v := (o.load s).toNat
    (i.mnemonic = .ASL → r.toNat = v * 2 % 256 ∧ ShiftsTo i s t r (decide (128 ≤ v))) ∧
    (i.mnemonic = .LSR → r.toNat = v / 2 ∧ t.flags.N = false ∧ ShiftsTo i s t r (decide (v % 2 = 1)))

/-- 42_shift_rotate.md R132 and R133, all five forms of each: a 9-bit rotation of the operand and C (decision D6; the
reference's pure rotation is not followed).
(Log 8.) -/
def Obligations.RolAndRorRotateThroughCarry : Prop :=
  formsOf .ROL = [(0x26, .zeroPage), (0x2A, .accumulator), (0x2E, .absolute), (0x36, .zeroPageX),
      (0x3E, .absoluteX)] ∧
  formsOf .ROR = [(0x66, .zeroPage), (0x6A, .accumulator), (0x6E, .absolute), (0x76, .zeroPageX),
      (0x7E, .absoluteX)] ∧
  ∀ (i : Instr) (s : State), i.mnemonic = .ROL ∨ i.mnemonic = .ROR → ∃ o t r, operandOf i.mode s = some o ∧
    exec i s = .next t ∧
    let v := (o.load s).toNat
    (i.mnemonic = .ROL → r.toNat = v * 2 % 256 + s.flags.C.toNat ∧ ShiftsTo i s t r (decide (128 ≤ v))) ∧
    (i.mnemonic = .ROR → r.toNat = v / 2 + 128 * s.flags.C.toNat ∧ t.flags.N = s.flags.C ∧
      ShiftsTo i s t r (decide (v % 2 = 1)))

/-- 42_shift_rotate.md R132 and R133, corner cases: nine rotations of one place restore it and C, and touch nothing else
but Z, N and PC. -/
def Obligations.NineRotationsRestorePlaceAndCarry : Prop :=
  ∀ (i : Instr) (s : State), i.mnemonic = .ROL ∨ i.mnemonic = .ROR → ∃ t, execTimes i 9 s = .next t ∧
    t.a = s.a ∧ t.flags.C = s.flags.C ∧ (∀ a, t.mem.read a = s.mem.read a) ∧
    t = { s with mem := t.mem, pc := t.pc, flags := { s.flags with Z := t.flags.Z, N := t.flags.N } }

/-- 43_compare.md R140, R141, R142, all forms: N is `diff < 0` of the unsigned values.
That the values are unsigned is the spec's decision (D1, D11, log 8). -/
def Obligations.ComparesOrderUnsignedValues : Prop :=
  formsOf .CMP = [(0xC1, .indexedIndirect), (0xC5, .zeroPage), (0xC9, .immediate), (0xCD, .absolute),
      (0xD1, .indirectIndexed), (0xD5, .zeroPageX), (0xD9, .absoluteY), (0xDD, .absoluteX)] ∧
  formsOf .CPX = [(0xE0, .immediate), (0xE4, .zeroPage), (0xEC, .absolute)] ∧
  formsOf .CPY = [(0xC0, .immediate), (0xC4, .zeroPage), (0xCC, .absolute)] ∧
  ∀ (i : Instr) (s : State) (r : Byte),
    (i.mnemonic = .CMP ∧ r = s.a) ∨ (i.mnemonic = .CPX ∧ r = s.x) ∨ (i.mnemonic = .CPY ∧ r = s.y) →
    ∃ o t, operandOf i.mode s = some o ∧ exec i s = .next t ∧
      let diff : Int := (r.toNat : Int) - ((o.load s).toNat : Int)
      (t.flags.C = true ↔ diff ≥ 0) ∧ (t.flags.Z = true ↔ diff = 0) ∧ (t.flags.N = true ↔ diff < 0) ∧
      t.flags.N = !t.flags.C ∧ AdvancesBy s t (1 + i.mode.len) ∧ t = { s with pc := t.pc, flags := { s.flags with C := t.flags.C, Z := t.flags.Z, N := t.flags.N } }

/-- 44_incdec.md R150 and R151, all four forms of each.
The flags are the spec's decision (D7, log 8). -/
def Obligations.IncAndDecModifyMemory : Prop :=
  formsOf .INC = [(0xE6, .zeroPage), (0xEE, .absolute), (0xF6, .zeroPageX), (0xFE, .absoluteX)] ∧
  formsOf .DEC = [(0xC6, .zeroPage), (0xCE, .absolute), (0xD6, .zeroPageX), (0xDE, .absoluteX)] ∧
  ∀ (i : Instr) (s : State), i.mnemonic = .INC ∨ i.mnemonic = .DEC →
    ∃ ea t, operandOf i.mode s = some ⟨.memory ea, i.mode.len⟩ ∧ exec i s = .next t ∧
      let r := t.mem.read ea
      (i.mnemonic = .INC → r.toNat = ((s.mem.read ea).toNat + 1) % 256) ∧
      (i.mnemonic = .DEC → r.toNat = ((s.mem.read ea).toNat + 255) % 256) ∧
      MemoryOnlyAt s t ea r ∧ ZNOf r t.flags ∧ AdvancesBy s t (1 + i.mode.len) ∧
      t = { s with mem := t.mem, pc := t.pc, flags := { s.flags with Z := t.flags.Z, N := t.flags.N } }

/-- 44_incdec.md R152, R153, R154, R155.
The flags are the spec's decision (D7, log 8). -/
def Obligations.IndexRegistersCountModulo256 : Prop :=
  formsOf .INX = [(0xE8, .implied)] ∧
  formsOf .INY = [(0xC8, .implied)] ∧
  formsOf .DEX = [(0xCA, .implied)] ∧
  formsOf .DEY = [(0x88, .implied)] ∧
  ∀ s : State,
    (∃ t, exec .inx s = .next t ∧ t.x.toNat = (s.x.toNat + 1) % 256 ∧ ZNOf t.x t.flags ∧ AdvancesBy s t 1 ∧
      t = { s with x := t.x, pc := t.pc, flags := { s.flags with Z := t.flags.Z, N := t.flags.N } }) ∧
    (∃ t, exec .iny s = .next t ∧ t.y.toNat = (s.y.toNat + 1) % 256 ∧ ZNOf t.y t.flags ∧ AdvancesBy s t 1 ∧
      t = { s with y := t.y, pc := t.pc, flags := { s.flags with Z := t.flags.Z, N := t.flags.N } }) ∧
    (∃ t, exec .dex s = .next t ∧ t.x.toNat = (s.x.toNat + 255) % 256 ∧ ZNOf t.x t.flags ∧ AdvancesBy s t 1 ∧
      t = { s with x := t.x, pc := t.pc, flags := { s.flags with Z := t.flags.Z, N := t.flags.N } }) ∧
    (∃ t, exec .dey s = .next t ∧ t.y.toNat = (s.y.toNat + 255) % 256 ∧ ZNOf t.y t.flags ∧ AdvancesBy s t 1 ∧
      t = { s with y := t.y, pc := t.pc, flags := { s.flags with Z := t.flags.Z, N := t.flags.N } })

/-- 45_transfer.md R160 to R165: TXS alone writes no flag.
Directions and flags are the spec's own (D7, D18, log 8). -/
def Obligations.TransfersCopyOneRegister : Prop :=
  formsOf .TAX = [(0xAA, .implied)] ∧
  formsOf .TXA = [(0x8A, .implied)] ∧
  formsOf .TAY = [(0xA8, .implied)] ∧
  formsOf .TYA = [(0x98, .implied)] ∧
  formsOf .TSX = [(0xBA, .implied)] ∧
  formsOf .TXS = [(0x9A, .implied)] ∧
  ∀ s : State,
    (∃ t, exec .tax s = .next t ∧ ZNOf s.a t.flags ∧ AdvancesBy s t 1 ∧ t = { s with x := s.a, pc := t.pc, flags := { s.flags with Z := t.flags.Z, N := t.flags.N } }) ∧
    (∃ t, exec .txa s = .next t ∧ ZNOf s.x t.flags ∧ AdvancesBy s t 1 ∧ t = { s with a := s.x, pc := t.pc, flags := { s.flags with Z := t.flags.Z, N := t.flags.N } }) ∧
    (∃ t, exec .tay s = .next t ∧ ZNOf s.a t.flags ∧ AdvancesBy s t 1 ∧ t = { s with y := s.a, pc := t.pc, flags := { s.flags with Z := t.flags.Z, N := t.flags.N } }) ∧
    (∃ t, exec .tya s = .next t ∧ ZNOf s.y t.flags ∧ AdvancesBy s t 1 ∧ t = { s with a := s.y, pc := t.pc, flags := { s.flags with Z := t.flags.Z, N := t.flags.N } }) ∧
    (∃ t, exec .tsx s = .next t ∧ ZNOf s.sp t.flags ∧ AdvancesBy s t 1 ∧ t = { s with x := s.sp, pc := t.pc, flags := { s.flags with Z := t.flags.Z, N := t.flags.N } }) ∧
    (∃ t, exec .txs s = .next t ∧ AdvancesBy s t 1 ∧ t = { s with sp := s.x, pc := t.pc })

/-- 46_stack_subroutine.md R170 and R171.
The flags of PLA are the spec's decision (D7, log 8). -/
def Obligations.PhaAndPlaMoveTheAccumulator : Prop :=
  formsOf .PHA = [(0x48, .implied)] ∧
  formsOf .PLA = [(0x68, .implied)] ∧
  ∀ s : State,
    (∃ t, exec .pha s = .next t ∧ MemoryOnlyAt s t (stackAddr s.sp) s.a ∧ t.sp.toNat = (s.sp.toNat + 255) % 256 ∧
      AdvancesBy s t 1 ∧ t = { s with mem := t.mem, sp := t.sp, pc := t.pc }) ∧
    (∃ t, exec .pla s = .next t ∧ t.sp.toNat = (s.sp.toNat + 1) % 256 ∧ t.a = s.mem.read (stackAddr t.sp) ∧
      ZNOf t.a t.flags ∧ AdvancesBy s t 1 ∧ t = { s with a := t.a, sp := t.sp, pc := t.pc, flags := { s.flags with Z := t.flags.Z, N := t.flags.N } })

/-- 46_stack_subroutine.md R172 and R173: the byte pushed has bit 5 set and the stored B; the byte pulled gives all seven
flags, its bit 5 ignored; PHP then PLP changes no flag.
The layout is the spec's own (D15, D16, log 8). -/
def Obligations.PhpAndPlpMoveTheFlags : Prop :=
  formsOf .PHP = [(0x08, .implied)] ∧
  formsOf .PLP = [(0x28, .implied)] ∧
  ∀ s : State,
    (∃ t, exec .php s = .next t ∧
      (t.mem.read (stackAddr s.sp)).toNat = s.flags.N.toNat * 128 + s.flags.V.toNat * 64 + 32 + s.flags.B.toNat * 16 +
        s.flags.D.toNat * 8 + s.flags.I.toNat * 4 + s.flags.Z.toNat * 2 + s.flags.C.toNat ∧
      MemoryOnlyAt s t (stackAddr s.sp) (t.mem.read (stackAddr s.sp)) ∧ t.sp.toNat = (s.sp.toNat + 255) % 256 ∧
      AdvancesBy s t 1 ∧ t = { s with mem := t.mem, sp := t.sp, pc := t.pc } ∧
      ∃ u, exec .plp t = .next u ∧ u.flags = s.flags ∧ u.sp = s.sp) ∧
    (∃ t, exec .plp s = .next t ∧ t.sp.toNat = (s.sp.toNat + 1) % 256 ∧
      (let p := s.mem.read (stackAddr t.sp)
       t.flags.N = p.getLsbD 7 ∧ t.flags.V = p.getLsbD 6 ∧ t.flags.B = p.getLsbD 4 ∧ t.flags.D = p.getLsbD 3 ∧
       t.flags.I = p.getLsbD 2 ∧ t.flags.Z = p.getLsbD 1 ∧ t.flags.C = p.getLsbD 0) ∧
      AdvancesBy s t 1 ∧ t = { s with flags := t.flags, sp := t.sp, pc := t.pc })

/-- 46_stack_subroutine.md R174: the address of the JSR's last byte goes to the stack, high byte at SP, low byte at SP - 1
modulo 256, and PC to the target.
Which address and which byte first is the spec's decision (D13, 90_conflicts.md C1, log 8). -/
def Obligations.JsrPushesItsLastByteAddress : Prop :=
  formsOf .JSR = [(0x20, .absolute)] ∧
  ∀ (w : Word) (s : State), ∃ t, exec (.jsr w) s = .next t ∧ t.pc = w ∧
    (let ret := (s.pc.toNat + 2) % 65536
     let high := stackAddr s.sp
     let low := stackAddr (BitVec.ofNat 8 ((s.sp.toNat + 255) % 256))
     high.toNat = 0x0100 + s.sp.toNat ∧ low.toNat = 0x0100 + (s.sp.toNat + 255) % 256 ∧
     (t.mem.read high).toNat = ret / 256 ∧ (t.mem.read low).toNat = ret % 256 ∧
     ∀ a, a ≠ high → a ≠ low → t.mem.read a = s.mem.read a) ∧
    t.sp.toNat = (s.sp.toNat + 254) % 256 ∧ t = { s with mem := t.mem, sp := t.sp, pc := w }

/-- 46_stack_subroutine.md R175 and R176: RTS adds one to the pulled address, RTI pulls the flags first and adds nothing.
What RTS adds (D13), the layout of the flags byte (D16) and RTI's missing increment (D14) are the spec's own (log 8). -/
def Obligations.RtsAndRtiPullTheirAddress : Prop :=
  formsOf .RTS = [(0x60, .implied)] ∧
  formsOf .RTI = [(0x40, .implied)] ∧
  ∀ s : State,
    let stacked := fun n : Nat => s.mem.read (BitVec.ofNat 16 (0x0100 + (s.sp.toNat + n) % 256))
    (∃ t, exec .rts s = .next t ∧ t.pc.toNat = ((stacked 2).toNat * 256 + (stacked 1).toNat + 1) % 65536 ∧
      t.sp.toNat = (s.sp.toNat + 2) % 256 ∧ t = { s with sp := t.sp, pc := t.pc }) ∧
    (∃ t, exec .rti s = .next t ∧ t.pc.toNat = (stacked 3).toNat * 256 + (stacked 2).toNat ∧
      t.sp.toNat = (s.sp.toNat + 3) % 256 ∧
      (let p := stacked 1
       t.flags.N = p.getLsbD 7 ∧ t.flags.V = p.getLsbD 6 ∧ t.flags.B = p.getLsbD 4 ∧ t.flags.D = p.getLsbD 3 ∧
       t.flags.I = p.getLsbD 2 ∧ t.flags.Z = p.getLsbD 1 ∧ t.flags.C = p.getLsbD 0) ∧
      t = { s with sp := t.sp, pc := t.pc, flags := t.flags })

/-- 46_stack_subroutine.md R177 (derived there): whatever the subroutine does, if it ends with the stack pointer and the
two bytes JSR pushed as JSR left them, RTS returns to the byte after the JSR with the caller's SP. -/
def Obligations.RtsReturnsAfterItsJsr : Prop :=
  ∀ (w : Word) (s t u : State), exec (.jsr w) s = .next t → u.sp = t.sp →
    u.mem.read (stackAddr s.sp) = t.mem.read (stackAddr s.sp) →
    u.mem.read (stackAddr (s.sp - 1)) = t.mem.read (stackAddr (s.sp - 1)) →
    ∃ r, exec .rts u = .next r ∧ r.pc.toNat = (s.pc.toNat + 3) % 65536 ∧ r.sp = s.sp

/-- 47_branch_jump.md R190 to R198: the eight branches, taken and not taken.
The condition of each mnemonic is the spec's own (D18, log 8). -/
def Obligations.BranchesFollowTheirCondition : Prop :=
  formsOf .BPL = [(0x10, .relative)] ∧
  formsOf .BMI = [(0x30, .relative)] ∧
  formsOf .BVC = [(0x50, .relative)] ∧
  formsOf .BVS = [(0x70, .relative)] ∧
  formsOf .BCC = [(0x90, .relative)] ∧
  formsOf .BCS = [(0xB0, .relative)] ∧
  formsOf .BNE = [(0xD0, .relative)] ∧
  formsOf .BEQ = [(0xF0, .relative)] ∧
  ∀ (b : Byte) (s : State),
    ∀ p ∈ [(Instr.bpl b, s.flags.N = false), (.bmi b, s.flags.N = true), (.bvc b, s.flags.V = false),
      (.bvs b, s.flags.V = true), (.bcc b, s.flags.C = false), (.bcs b, s.flags.C = true),
      (.bne b, s.flags.Z = false), (.beq b, s.flags.Z = true)],
    ∃ t, exec p.1 s = .next t ∧
      (p.2 → (t.pc.toNat : Int) = ((s.pc.toNat : Int) + 2 + signedReading b) % 65536) ∧
      (¬ p.2 → AdvancesBy s t 2) ∧ t = { s with pc := t.pc }

/-- 47_branch_jump.md R199, both forms. -/
def Obligations.JmpSetsTheProgramCounter : Prop :=
  formsOf .JMP = [(0x4C, .absolute), (0x6C, .indirect)] ∧
  ∀ (w : Word) (s : State),
    exec (.jmpAbs w) s = .next { s with pc := w } ∧
    ∃ t, exec (.jmpInd w) s = .next t ∧
      t.pc.toNat = (s.mem.read w).toNat + 256 * (s.mem.read (BitVec.ofNat 16 ((w.toNat + 1) % 65536))).toNat ∧
      t = { s with pc := t.pc }

/-- 48_flag_bit_nop.md R210 to R216: each writes one flag and nothing else.
Which flag each names is the spec's own (D18, log 8). -/
def Obligations.FlagInstructionsWriteOneFlag : Prop :=
  formsOf .CLC = [(0x18, .implied)] ∧
  formsOf .SEC = [(0x38, .implied)] ∧
  formsOf .CLI = [(0x58, .implied)] ∧
  formsOf .SEI = [(0x78, .implied)] ∧
  formsOf .CLV = [(0xB8, .implied)] ∧
  formsOf .CLD = [(0xD8, .implied)] ∧
  formsOf .SED = [(0xF8, .implied)] ∧
  ∀ s : State,
    ∀ p ∈ [(Instr.clc, { s.flags with C := false }), (.sec, { s.flags with C := true }),
      (.cli, { s.flags with I := false }), (.sei, { s.flags with I := true }), (.clv, { s.flags with V := false }),
      (.cld, { s.flags with D := false }), (.sed, { s.flags with D := true })],
    ∃ t, exec p.1 s = .next t ∧ AdvancesBy s t 1 ∧ t = { s with flags := p.2, pc := t.pc }

/-- 48_flag_bit_nop.md R217, both forms. -/
def Obligations.BitTestsTheOperand : Prop :=
  formsOf .BIT = [(0x24, .zeroPage), (0x2C, .absolute)] ∧
  ∀ (i : Instr) (s : State), i.mnemonic = .BIT → ∃ o t, operandOf i.mode s = some o ∧ exec i s = .next t ∧
    let m := o.load s
    (t.flags.Z = true ↔ ∀ n : Nat, n < 8 → (m.getLsbD n && s.a.getLsbD n) = false) ∧
    (t.flags.N = true ↔ 128 ≤ m.toNat) ∧ (t.flags.V = true ↔ 64 ≤ m.toNat % 128) ∧
    AdvancesBy s t (1 + i.mode.len) ∧
    t = { s with pc := t.pc, flags := { s.flags with Z := t.flags.Z, N := t.flags.N, V := t.flags.V } }

/-- 48_flag_bit_nop.md R218 and R219: both advance PC by one and do nothing else.
BRK's one byte is the spec's decision (D17, log 8). -/
def Obligations.NopAndBrkAdvanceOnly : Prop :=
  formsOf .NOP = [(0xEA, .implied)] ∧
  formsOf .BRK = [(0x00, .implied)] ∧
  ∀ (i : Instr) (s : State), i = .nop ∨ i = .brk →
    ∃ t, exec i s = .next t ∧ AdvancesBy s t 1 ∧ t = { s with pc := t.pc }

/-- 49_load_store.md R230, R231, R232, all forms.
All of it is the spec's own (D7, D23, log 8). -/
def Obligations.LoadsWriteTheirRegister : Prop :=
  formsOf .LDA = [(0xA1, .indexedIndirect), (0xA5, .zeroPage), (0xA9, .immediate), (0xAD, .absolute),
      (0xB1, .indirectIndexed), (0xB5, .zeroPageX), (0xB9, .absoluteY), (0xBD, .absoluteX)] ∧
  formsOf .LDX = [(0xA2, .immediate), (0xA6, .zeroPage), (0xAE, .absolute), (0xB6, .zeroPageY),
      (0xBE, .absoluteY)] ∧
  formsOf .LDY = [(0xA0, .immediate), (0xA4, .zeroPage), (0xAC, .absolute), (0xB4, .zeroPageX),
      (0xBC, .absoluteX)] ∧
  (∀ (i : Instr) (s : State), i.mnemonic = .LDA → ∃ o t, operandOf i.mode s = some o ∧ exec i s = .next t ∧
    ZNOf (o.load s) t.flags ∧ AdvancesBy s t (1 + i.mode.len) ∧ t = { s with a := o.load s, pc := t.pc, flags := { s.flags with Z := t.flags.Z, N := t.flags.N } }) ∧
  (∀ (i : Instr) (s : State), i.mnemonic = .LDX → ∃ o t, operandOf i.mode s = some o ∧ exec i s = .next t ∧
    ZNOf (o.load s) t.flags ∧ AdvancesBy s t (1 + i.mode.len) ∧ t = { s with x := o.load s, pc := t.pc, flags := { s.flags with Z := t.flags.Z, N := t.flags.N } }) ∧
  (∀ (i : Instr) (s : State), i.mnemonic = .LDY → ∃ o t, operandOf i.mode s = some o ∧ exec i s = .next t ∧
    ZNOf (o.load s) t.flags ∧ AdvancesBy s t (1 + i.mode.len) ∧ t = { s with y := o.load s, pc := t.pc, flags := { s.flags with Z := t.flags.Z, N := t.flags.N } })

/-- 49_load_store.md R233, R234, R235, all forms.
All of it is the spec's own (D23, log 8). -/
def Obligations.StoresWriteOneByte : Prop :=
  formsOf .STA = [(0x81, .indexedIndirect), (0x85, .zeroPage), (0x8D, .absolute), (0x91, .indirectIndexed),
      (0x95, .zeroPageX), (0x99, .absoluteY), (0x9D, .absoluteX)] ∧
  formsOf .STX = [(0x86, .zeroPage), (0x8E, .absolute), (0x96, .zeroPageY)] ∧
  formsOf .STY = [(0x84, .zeroPage), (0x8C, .absolute), (0x94, .zeroPageX)] ∧
  ∀ (i : Instr) (s : State) (v : Byte),
    (i.mnemonic = .STA ∧ v = s.a) ∨ (i.mnemonic = .STX ∧ v = s.x) ∨ (i.mnemonic = .STY ∧ v = s.y) →
    ∃ ea t, operandOf i.mode s = some ⟨.memory ea, i.mode.len⟩ ∧ exec i s = .next t ∧ MemoryOnlyAt s t ea v ∧
      AdvancesBy s t (1 + i.mode.len) ∧ t = { s with mem := t.mem, pc := t.pc }

/-! ## Rules about all instructions -/

/-- 10_state.md R17 (derived there) and R18, the writers: no instruction outside a flag's list changes it. -/
def Obligations.FlagsChangeOnlyByTheirWriters : Prop :=
  ∀ (i : Instr) (s t : State), exec i s = .next t →
    (t.flags.C ≠ s.flags.C →
      i.mnemonic ∈ [.ADC, .SBC, .ASL, .LSR, .ROL, .ROR, .CMP, .CPX, .CPY, .CLC, .SEC, .PLP, .RTI]) ∧
    (t.flags.Z ≠ s.flags.Z ∨ t.flags.N ≠ s.flags.N →
      i.mnemonic ∈ [.ADC, .SBC, .AND, .ORA, .EOR, .ASL, .LSR, .ROL, .ROR, .CMP, .CPX, .CPY, .INC, .DEC, .INX, .INY, .DEX,
        .DEY, .TAX, .TXA, .TAY, .TYA, .TSX, .PLA, .LDA, .LDX, .LDY, .BIT, .PLP, .RTI]) ∧
    (t.flags.V ≠ s.flags.V → i.mnemonic ∈ [.ADC, .SBC, .BIT, .CLV, .PLP, .RTI]) ∧
    (t.flags.I ≠ s.flags.I → i.mnemonic ∈ [.CLI, .SEI, .PLP, .RTI]) ∧
    (t.flags.D ≠ s.flags.D → i.mnemonic ∈ [.CLD, .SED, .PLP, .RTI]) ∧
    (t.flags.B ≠ s.flags.B → i.mnemonic ∈ [.PLP, .RTI])

/-- 10_state.md R17 (derived there) and R18, the readers: for an instruction outside a flag's list, two states that differ
in that flag alone go to next states that differ in that flag at most. So I, D and B are read by PHP alone. -/
def Obligations.FlagsAreReadOnlyByTheirReaders : Prop :=
  ∀ (i : Instr) (s : State) (v : Bool),
    (i.mnemonic ∉ [.ADC, .ROL, .ROR, .BCC, .BCS, .PHP] →
      ∃ t c, exec i s = .next t ∧
        exec i { s with flags := { s.flags with C := v } } = .next { t with flags := { t.flags with C := c } }) ∧
    (i.mnemonic ∉ [.BNE, .BEQ, .PHP] →
      ∃ t c, exec i s = .next t ∧
        exec i { s with flags := { s.flags with Z := v } } = .next { t with flags := { t.flags with Z := c } }) ∧
    (i.mnemonic ∉ [.BVC, .BVS, .PHP] →
      ∃ t c, exec i s = .next t ∧
        exec i { s with flags := { s.flags with V := v } } = .next { t with flags := { t.flags with V := c } }) ∧
    (i.mnemonic ∉ [.BPL, .BMI, .PHP] →
      ∃ t c, exec i s = .next t ∧
        exec i { s with flags := { s.flags with N := v } } = .next { t with flags := { t.flags with N := c } }) ∧
    (i.mnemonic ≠ .PHP →
      ∃ t c, exec i s = .next t ∧
        exec i { s with flags := { s.flags with I := v } } = .next { t with flags := { t.flags with I := c } }) ∧
    (i.mnemonic ≠ .PHP →
      ∃ t c, exec i s = .next t ∧
        exec i { s with flags := { s.flags with D := v } } = .next { t with flags := { t.flags with D := c } }) ∧
    (i.mnemonic ≠ .PHP →
      ∃ t c, exec i s = .next t ∧
        exec i { s with flags := { s.flags with B := v } } = .next { t with flags := { t.flags with B := c } })

/-- 10_state.md R12 to R15, the writers of SP, A, X and Y: no other instruction changes them. -/
def Obligations.RegistersChangeOnlyByTheirWriters : Prop :=
  ∀ (i : Instr) (s t : State), exec i s = .next t →
    (t.a ≠ s.a → i.mnemonic ∈ [.ADC, .SBC, .AND, .LDA, .PLA, .TXA, .TYA] ∨
      (i.mode.kind = .accumulator ∧ i.mnemonic ∈ [.ASL, .LSR, .ROL, .ROR])) ∧
    (t.x ≠ s.x → i.mnemonic ∈ [.LDX, .TAX, .TSX, .INX, .DEX]) ∧
    (t.y ≠ s.y → i.mnemonic ∈ [.LDY, .TAY, .INY, .DEY]) ∧
    (t.sp ≠ s.sp → i.mnemonic ∈ [.PHA, .PHP, .PLA, .PLP, .JSR, .RTS, .RTI, .TXS])

/-- 10_state.md R11: an instruction that is no control transfer and does not raise moves PC by `1 + len(mode)`, modulo
65,536. -/
def Obligations.OtherInstructionsAdvanceByTheirLength : Prop :=
  ∀ (i : Instr) (s t : State), s.fault = none → exec i s = .next t → t.fault = none →
    i.mnemonic ∉ [.JMP, .JSR, .RTS, .RTI, .BPL, .BMI, .BVC, .BVS, .BCC, .BCS, .BNE, .BEQ] →
    AdvancesBy s t (1 + i.mode.len)

/-- No instruction writes memory but the stores, the read-modify-write forms, ORA and EOR at their effective address, and
PHA, PHP and JSR in the stack page (20_memory.md R42, R47, R64, R65). -/
def Obligations.MemoryChangesOnlyByStoresAndPushes : Prop :=
  ∀ (i : Instr) (s t : State) (a : Word), exec i s = .next t → t.mem.read a ≠ s.mem.read a →
    (i.mnemonic ∈ [.ORA, .EOR, .ASL, .LSR, .ROL, .ROR, .INC, .DEC, .STA, .STX, .STY] ∧
      operandOf i.mode s = some ⟨.memory a, i.mode.len⟩) ∨
    (i.mnemonic ∈ [.PHA, .PHP, .JSR] ∧ 0x0100 ≤ a.toNat ∧ a.toNat ≤ 0x01FF)
end

