-- ==== Sys2Proof/Laws/Decode.lean ====
section
/-! SUPPORT. What an answer of the decoder tells. -/

namespace Sys2Proof

/-- An instruction came from a cell of the matrix and from the pair that cell names (R84). -/
theorem decode_instr {byte : Nat → Byte} {i : Instr} (h : decode byte = .instr i) :
    ∃ mn k, opcodeCell (byte 0) = some (mn, k) ∧ instrOfPair mn (modeOfBytes k (byte 1) (byte 2)) = some i := by
  unfold decode at h
  split at h
  · cases h
  · rename_i mn k hc
    split at h
    · rename_i j hj
      cases h
      exact ⟨mn, k, hc, hj⟩
    · cases h

/-- The byte a rejection names is the opcode byte (R84, R251). -/
theorem decode_illegal {byte : Nat → Byte} {op : Byte} (h : decode byte = .illegalOpcode op) : op = byte 0 := by
  unfold decode at h
  split at h
  · cases h; rfl
  · split at h <;> cases h
    rfl

@[simp] theorem kind_modeOfBytes (k : ModeKind) (b1 b2 : Byte) : (modeOfBytes k b1 b2).kind = k := by
  cases k <;> rfl

/-- The number a concatenation stands for (R8). -/
theorem toNat_concat (hi lo : Byte) : (concat hi lo).toNat = hi.toNat * 256 + lo.toNat := by
  have h2 := lo.isLt
  unfold concat
  rw [BitVec.toNat_append, ← Nat.shiftLeft_add_eq_or_of_lt (by omega), Nat.shiftLeft_eq]

/-- The number of the low byte (R8). -/
theorem toNat_lowByte (w : Word) : (lowByte w).toNat = w.toNat % 256 := by
  simp [lowByte, BitVec.extractLsb'_toNat]

/-- The number of the high byte (R8). -/
theorem toNat_highByte (w : Word) : (highByte w).toNat = w.toNat / 256 := by
  have h := w.isLt
  simp [highByte, BitVec.extractLsb'_toNat, Nat.shiftRight_eq_div_pow]
  omega

@[simp] theorem lowByte_concat (hi lo : Byte) : lowByte (concat hi lo) = lo := by
  have h := lo.isLt
  apply BitVec.eq_of_toNat_eq
  rw [toNat_lowByte, toNat_concat]
  omega

@[simp] theorem highByte_concat (hi lo : Byte) : highByte (concat hi lo) = hi := by
  have h := lo.isLt
  apply BitVec.eq_of_toNat_eq
  rw [toNat_highByte, toNat_concat]
  omega

@[simp] theorem concat_high_low (w : Word) : concat (highByte w) (lowByte w) = w := by
  apply BitVec.eq_of_toNat_eq
  rw [toNat_concat, toNat_highByte, toNat_lowByte]
  omega

end Sys2Proof
end

