-- ==== Sys2Proof/Laws/State.lean ====
section
/-! SUPPORT. One lemma per field per named update, so that no proof unfolds a record update. -/

namespace Sys2Proof.Machine

@[simp] theorem State.setPC_pc (s : State) (v : Word) : (s.setPC v).pc = v := rfl
@[simp] theorem State.setPC_sp (s : State) (v : Word) : (s.setPC v).sp = s.sp := rfl
@[simp] theorem State.setPC_a (s : State) (v : Word) : (s.setPC v).a = s.a := rfl
@[simp] theorem State.setPC_x (s : State) (v : Word) : (s.setPC v).x = s.x := rfl
@[simp] theorem State.setPC_y (s : State) (v : Word) : (s.setPC v).y = s.y := rfl
@[simp] theorem State.setPC_flags (s : State) (v : Word) : (s.setPC v).flags = s.flags := rfl
@[simp] theorem State.setPC_mem (s : State) (v : Word) : (s.setPC v).mem = s.mem := rfl
@[simp] theorem State.setPC_fault (s : State) (v : Word) : (s.setPC v).fault = s.fault := rfl

@[simp] theorem State.setSP_pc (s : State) (v : Byte) : (s.setSP v).pc = s.pc := rfl
@[simp] theorem State.setSP_sp (s : State) (v : Byte) : (s.setSP v).sp = v := rfl
@[simp] theorem State.setSP_a (s : State) (v : Byte) : (s.setSP v).a = s.a := rfl
@[simp] theorem State.setSP_x (s : State) (v : Byte) : (s.setSP v).x = s.x := rfl
@[simp] theorem State.setSP_y (s : State) (v : Byte) : (s.setSP v).y = s.y := rfl
@[simp] theorem State.setSP_flags (s : State) (v : Byte) : (s.setSP v).flags = s.flags := rfl
@[simp] theorem State.setSP_mem (s : State) (v : Byte) : (s.setSP v).mem = s.mem := rfl
@[simp] theorem State.setSP_fault (s : State) (v : Byte) : (s.setSP v).fault = s.fault := rfl

@[simp] theorem State.setA_pc (s : State) (v : Byte) : (s.setA v).pc = s.pc := rfl
@[simp] theorem State.setA_sp (s : State) (v : Byte) : (s.setA v).sp = s.sp := rfl
@[simp] theorem State.setA_a (s : State) (v : Byte) : (s.setA v).a = v := rfl
@[simp] theorem State.setA_x (s : State) (v : Byte) : (s.setA v).x = s.x := rfl
@[simp] theorem State.setA_y (s : State) (v : Byte) : (s.setA v).y = s.y := rfl
@[simp] theorem State.setA_flags (s : State) (v : Byte) : (s.setA v).flags = s.flags := rfl
@[simp] theorem State.setA_mem (s : State) (v : Byte) : (s.setA v).mem = s.mem := rfl
@[simp] theorem State.setA_fault (s : State) (v : Byte) : (s.setA v).fault = s.fault := rfl

@[simp] theorem State.setX_pc (s : State) (v : Byte) : (s.setX v).pc = s.pc := rfl
@[simp] theorem State.setX_sp (s : State) (v : Byte) : (s.setX v).sp = s.sp := rfl
@[simp] theorem State.setX_a (s : State) (v : Byte) : (s.setX v).a = s.a := rfl
@[simp] theorem State.setX_x (s : State) (v : Byte) : (s.setX v).x = v := rfl
@[simp] theorem State.setX_y (s : State) (v : Byte) : (s.setX v).y = s.y := rfl
@[simp] theorem State.setX_flags (s : State) (v : Byte) : (s.setX v).flags = s.flags := rfl
@[simp] theorem State.setX_mem (s : State) (v : Byte) : (s.setX v).mem = s.mem := rfl
@[simp] theorem State.setX_fault (s : State) (v : Byte) : (s.setX v).fault = s.fault := rfl

@[simp] theorem State.setY_pc (s : State) (v : Byte) : (s.setY v).pc = s.pc := rfl
@[simp] theorem State.setY_sp (s : State) (v : Byte) : (s.setY v).sp = s.sp := rfl
@[simp] theorem State.setY_a (s : State) (v : Byte) : (s.setY v).a = s.a := rfl
@[simp] theorem State.setY_x (s : State) (v : Byte) : (s.setY v).x = s.x := rfl
@[simp] theorem State.setY_y (s : State) (v : Byte) : (s.setY v).y = v := rfl
@[simp] theorem State.setY_flags (s : State) (v : Byte) : (s.setY v).flags = s.flags := rfl
@[simp] theorem State.setY_mem (s : State) (v : Byte) : (s.setY v).mem = s.mem := rfl
@[simp] theorem State.setY_fault (s : State) (v : Byte) : (s.setY v).fault = s.fault := rfl

@[simp] theorem State.setFlags_pc (s : State) (f : Flags) : (s.setFlags f).pc = s.pc := rfl
@[simp] theorem State.setFlags_sp (s : State) (f : Flags) : (s.setFlags f).sp = s.sp := rfl
@[simp] theorem State.setFlags_a (s : State) (f : Flags) : (s.setFlags f).a = s.a := rfl
@[simp] theorem State.setFlags_x (s : State) (f : Flags) : (s.setFlags f).x = s.x := rfl
@[simp] theorem State.setFlags_y (s : State) (f : Flags) : (s.setFlags f).y = s.y := rfl
@[simp] theorem State.setFlags_flags (s : State) (f : Flags) : (s.setFlags f).flags = f := rfl
@[simp] theorem State.setFlags_mem (s : State) (f : Flags) : (s.setFlags f).mem = s.mem := rfl
@[simp] theorem State.setFlags_fault (s : State) (f : Flags) : (s.setFlags f).fault = s.fault := rfl

@[simp] theorem State.setZN_pc (s : State) (v : Byte) : (s.setZN v).pc = s.pc := rfl
@[simp] theorem State.setZN_sp (s : State) (v : Byte) : (s.setZN v).sp = s.sp := rfl
@[simp] theorem State.setZN_a (s : State) (v : Byte) : (s.setZN v).a = s.a := rfl
@[simp] theorem State.setZN_x (s : State) (v : Byte) : (s.setZN v).x = s.x := rfl
@[simp] theorem State.setZN_y (s : State) (v : Byte) : (s.setZN v).y = s.y := rfl
@[simp] theorem State.setZN_flags (s : State) (v : Byte) : (s.setZN v).flags = s.flags.setZN v := rfl
@[simp] theorem State.setZN_mem (s : State) (v : Byte) : (s.setZN v).mem = s.mem := rfl
@[simp] theorem State.setZN_fault (s : State) (v : Byte) : (s.setZN v).fault = s.fault := rfl

@[simp] theorem State.write_pc (s : State) (e : Word) (v : Byte) : (s.write e v).pc = s.pc := rfl
@[simp] theorem State.write_sp (s : State) (e : Word) (v : Byte) : (s.write e v).sp = s.sp := rfl
@[simp] theorem State.write_a (s : State) (e : Word) (v : Byte) : (s.write e v).a = s.a := rfl
@[simp] theorem State.write_x (s : State) (e : Word) (v : Byte) : (s.write e v).x = s.x := rfl
@[simp] theorem State.write_y (s : State) (e : Word) (v : Byte) : (s.write e v).y = s.y := rfl
@[simp] theorem State.write_flags (s : State) (e : Word) (v : Byte) : (s.write e v).flags = s.flags := rfl
@[simp] theorem State.write_mem (s : State) (e : Word) (v : Byte) : (s.write e v).mem = s.mem.write e v := rfl
@[simp] theorem State.write_fault (s : State) (e : Word) (v : Byte) : (s.write e v).fault = s.fault := rfl

@[simp] theorem State.advance_pc (s : State) (n : Nat) : (s.advance n).pc = s.pc + 1 + BitVec.ofNat 16 n := rfl
@[simp] theorem State.advance_sp (s : State) (n : Nat) : (s.advance n).sp = s.sp := rfl
@[simp] theorem State.advance_a (s : State) (n : Nat) : (s.advance n).a = s.a := rfl
@[simp] theorem State.advance_x (s : State) (n : Nat) : (s.advance n).x = s.x := rfl
@[simp] theorem State.advance_y (s : State) (n : Nat) : (s.advance n).y = s.y := rfl
@[simp] theorem State.advance_flags (s : State) (n : Nat) : (s.advance n).flags = s.flags := rfl
@[simp] theorem State.advance_mem (s : State) (n : Nat) : (s.advance n).mem = s.mem := rfl
@[simp] theorem State.advance_fault (s : State) (n : Nat) : (s.advance n).fault = s.fault := rfl

@[simp] theorem State.raise_pc (s : State) (f : Fault) : (s.raise f).pc = s.pc := rfl
@[simp] theorem State.raise_sp (s : State) (f : Fault) : (s.raise f).sp = s.sp := rfl
@[simp] theorem State.raise_a (s : State) (f : Fault) : (s.raise f).a = s.a := rfl
@[simp] theorem State.raise_x (s : State) (f : Fault) : (s.raise f).x = s.x := rfl
@[simp] theorem State.raise_y (s : State) (f : Fault) : (s.raise f).y = s.y := rfl
@[simp] theorem State.raise_flags (s : State) (f : Fault) : (s.raise f).flags = s.flags := rfl
@[simp] theorem State.raise_mem (s : State) (f : Fault) : (s.raise f).mem = s.mem := rfl
@[simp] theorem State.raise_fault (s : State) (f : Fault) : (s.raise f).fault = some f := rfl

@[simp] theorem State.pulled_pc (s : State) : (s.pulled).pc = s.pc := rfl
@[simp] theorem State.pulled_sp (s : State) : (s.pulled).sp = s.sp + 1 := rfl
@[simp] theorem State.pulled_a (s : State) : (s.pulled).a = s.a := rfl
@[simp] theorem State.pulled_x (s : State) : (s.pulled).x = s.x := rfl
@[simp] theorem State.pulled_y (s : State) : (s.pulled).y = s.y := rfl
@[simp] theorem State.pulled_flags (s : State) : (s.pulled).flags = s.flags := rfl
@[simp] theorem State.pulled_mem (s : State) : (s.pulled).mem = s.mem := rfl
@[simp] theorem State.pulled_fault (s : State) : (s.pulled).fault = s.fault := rfl

@[simp] theorem State.push_pc (s : State) (v : Byte) : (s.push v).pc = s.pc := rfl
@[simp] theorem State.push_sp (s : State) (v : Byte) : (s.push v).sp = s.sp - 1 := rfl
@[simp] theorem State.push_a (s : State) (v : Byte) : (s.push v).a = s.a := rfl
@[simp] theorem State.push_x (s : State) (v : Byte) : (s.push v).x = s.x := rfl
@[simp] theorem State.push_y (s : State) (v : Byte) : (s.push v).y = s.y := rfl
@[simp] theorem State.push_flags (s : State) (v : Byte) : (s.push v).flags = s.flags := rfl
@[simp] theorem State.push_mem (s : State) (v : Byte) : (s.push v).mem = s.mem.write (stackAddr s.sp) v := rfl
@[simp] theorem State.push_fault (s : State) (v : Byte) : (s.push v).fault = s.fault := rfl

@[simp] theorem Flags.setZN_C (f : Flags) (v : Byte) : (f.setZN v).C = f.C := rfl
@[simp] theorem Flags.setZN_Z (f : Flags) (v : Byte) : (f.setZN v).Z = decide (v = 0) := rfl
@[simp] theorem Flags.setZN_I (f : Flags) (v : Byte) : (f.setZN v).I = f.I := rfl
@[simp] theorem Flags.setZN_D (f : Flags) (v : Byte) : (f.setZN v).D = f.D := rfl
@[simp] theorem Flags.setZN_B (f : Flags) (v : Byte) : (f.setZN v).B = f.B := rfl
@[simp] theorem Flags.setZN_V (f : Flags) (v : Byte) : (f.setZN v).V = f.V := rfl
@[simp] theorem Flags.setZN_N (f : Flags) (v : Byte) : (f.setZN v).N = v.getLsbD 7 := rfl

@[simp] theorem Flags.afterAdc_C (f : Flags) (a m : Byte) :
    (f.afterAdc a m).C = decide (adcSum a m f.C > 255) := rfl
@[simp] theorem Flags.afterAdc_Z (f : Flags) (a m : Byte) :
    (f.afterAdc a m).Z = decide (adcValue a m f.C = 0) := rfl
@[simp] theorem Flags.afterAdc_I (f : Flags) (a m : Byte) :
    (f.afterAdc a m).I = f.I := rfl
@[simp] theorem Flags.afterAdc_D (f : Flags) (a m : Byte) :
    (f.afterAdc a m).D = f.D := rfl
@[simp] theorem Flags.afterAdc_B (f : Flags) (a m : Byte) :
    (f.afterAdc a m).B = f.B := rfl
@[simp] theorem Flags.afterAdc_V (f : Flags) (a m : Byte) :
    (f.afterAdc a m).V = ((a ^^^ adcValue a m f.C) &&& (m ^^^ adcValue a m f.C)).getLsbD 7 := rfl
@[simp] theorem Flags.afterAdc_N (f : Flags) (a m : Byte) :
    (f.afterAdc a m).N = (adcValue a m f.C).getLsbD 7 := rfl

@[simp] theorem Flags.afterSbc_C (f : Flags) (a m : Byte) :
    (f.afterSbc a m).C = decide (a.toNat ≥ m.toNat) := rfl
@[simp] theorem Flags.afterSbc_Z (f : Flags) (a m : Byte) :
    (f.afterSbc a m).Z = decide (sbcValue a m = 0) := rfl
@[simp] theorem Flags.afterSbc_I (f : Flags) (a m : Byte) :
    (f.afterSbc a m).I = f.I := rfl
@[simp] theorem Flags.afterSbc_D (f : Flags) (a m : Byte) :
    (f.afterSbc a m).D = f.D := rfl
@[simp] theorem Flags.afterSbc_B (f : Flags) (a m : Byte) :
    (f.afterSbc a m).B = f.B := rfl
@[simp] theorem Flags.afterSbc_V (f : Flags) (a m : Byte) :
    (f.afterSbc a m).V = ((a ^^^ m) &&& (a ^^^ sbcValue a m)).getLsbD 7 := rfl
@[simp] theorem Flags.afterSbc_N (f : Flags) (a m : Byte) :
    (f.afterSbc a m).N = (sbcValue a m).getLsbD 7 := rfl

@[simp] theorem Flags.afterShift_C (f : Flags) (b : Bool) (r : Byte) : (f.afterShift b r).C = b := rfl
@[simp] theorem Flags.afterShift_Z (f : Flags) (b : Bool) (r : Byte) : (f.afterShift b r).Z = decide (r = 0) := rfl
@[simp] theorem Flags.afterShift_I (f : Flags) (b : Bool) (r : Byte) : (f.afterShift b r).I = f.I := rfl
@[simp] theorem Flags.afterShift_D (f : Flags) (b : Bool) (r : Byte) : (f.afterShift b r).D = f.D := rfl
@[simp] theorem Flags.afterShift_B (f : Flags) (b : Bool) (r : Byte) : (f.afterShift b r).B = f.B := rfl
@[simp] theorem Flags.afterShift_V (f : Flags) (b : Bool) (r : Byte) : (f.afterShift b r).V = f.V := rfl
@[simp] theorem Flags.afterShift_N (f : Flags) (b : Bool) (r : Byte) : (f.afterShift b r).N = r.getLsbD 7 := rfl

@[simp] theorem Flags.afterCompare_C (f : Flags) (r m : Byte) : (f.afterCompare r m).C = decide (compareDiff r m ≥ 0) := rfl
@[simp] theorem Flags.afterCompare_Z (f : Flags) (r m : Byte) : (f.afterCompare r m).Z = decide (compareDiff r m = 0) := rfl
@[simp] theorem Flags.afterCompare_I (f : Flags) (r m : Byte) : (f.afterCompare r m).I = f.I := rfl
@[simp] theorem Flags.afterCompare_D (f : Flags) (r m : Byte) : (f.afterCompare r m).D = f.D := rfl
@[simp] theorem Flags.afterCompare_B (f : Flags) (r m : Byte) : (f.afterCompare r m).B = f.B := rfl
@[simp] theorem Flags.afterCompare_V (f : Flags) (r m : Byte) : (f.afterCompare r m).V = f.V := rfl
@[simp] theorem Flags.afterCompare_N (f : Flags) (r m : Byte) : (f.afterCompare r m).N = decide (compareDiff r m < 0) := rfl

@[simp] theorem Flags.afterBit_C (f : Flags) (a m : Byte) : (f.afterBit a m).C = f.C := rfl
@[simp] theorem Flags.afterBit_Z (f : Flags) (a m : Byte) : (f.afterBit a m).Z = decide (m &&& a = 0) := rfl
@[simp] theorem Flags.afterBit_I (f : Flags) (a m : Byte) : (f.afterBit a m).I = f.I := rfl
@[simp] theorem Flags.afterBit_D (f : Flags) (a m : Byte) : (f.afterBit a m).D = f.D := rfl
@[simp] theorem Flags.afterBit_B (f : Flags) (a m : Byte) : (f.afterBit a m).B = f.B := rfl
@[simp] theorem Flags.afterBit_V (f : Flags) (a m : Byte) : (f.afterBit a m).V = m.getLsbD 6 := rfl
@[simp] theorem Flags.afterBit_N (f : Flags) (a m : Byte) : (f.afterBit a m).N = m.getLsbD 7 := rfl

end Sys2Proof.Machine
end

