-- ==== Sys2Proof/Laws/Ops.lean ====
section
/-! SUPPORT. What the shared operations answer, said once: for each place an operand can have, the state after a store
through the mode. -/

namespace Sys2Proof.Machine

@[simp] theorem Operand.load_accumulator (n : Nat) (s : State) : (Operand.mk .accumulator n).load s = s.a := rfl
@[simp] theorem Operand.load_literal (b : Byte) (n : Nat) (s : State) : (Operand.mk (.literal b) n).load s = b := rfl
@[simp] theorem Operand.load_memory (ea : Word) (n : Nat) (s : State) :
    (Operand.mk (.memory ea) n).load s = s.mem.read ea := rfl

@[simp] theorem writeBack_accumulator (n : Nat) (r : Byte) (s : State) :
    writeBack ⟨.accumulator, n⟩ r s = .next (((s.setA r).setZN r).advance n) := rfl
@[simp] theorem writeBack_literal (b : Byte) (n : Nat) (r : Byte) (s : State) :
    writeBack ⟨.literal b, n⟩ r s = .next (s.raise (.invalidOperation s.pc)) := rfl
@[simp] theorem writeBack_memory (ea : Word) (n : Nat) (r : Byte) (s : State) :
    writeBack ⟨.memory ea, n⟩ r s = .next (((s.write ea r).setZN r).advance n) := rfl

@[simp] theorem shiftWith_accumulator (n : Nat) (c : Bool) (r : Byte) (s : State) :
    shiftWith ⟨.accumulator, n⟩ c r s = .next (((s.setA r).setFlags (s.flags.afterShift c r)).advance n) := rfl
@[simp] theorem shiftWith_literal (b : Byte) (n : Nat) (c : Bool) (r : Byte) (s : State) :
    shiftWith ⟨.literal b, n⟩ c r s = .next (s.raise (.invalidOperation s.pc)) := rfl
@[simp] theorem shiftWith_memory (ea : Word) (n : Nat) (c : Bool) (r : Byte) (s : State) :
    shiftWith ⟨.memory ea, n⟩ c r s = .next (((s.write ea r).setFlags (s.flags.afterShift c r)).advance n) := rfl

@[simp] theorem storeReg_accumulator (v : Byte) (n : Nat) (s : State) :
    storeReg v ⟨.accumulator, n⟩ s = .next ((s.setA v).advance n) := rfl
@[simp] theorem storeReg_literal (v b : Byte) (n : Nat) (s : State) :
    storeReg v ⟨.literal b, n⟩ s = .next (s.raise (.invalidOperation s.pc)) := rfl
@[simp] theorem storeReg_memory (v : Byte) (ea : Word) (n : Nat) (s : State) :
    storeReg v ⟨.memory ea, n⟩ s = .next ((s.write ea v).advance n) := rfl

/-- Where `Advance` lands, as a number (R8). -/
theorem State.advance_toNat (s : State) (n : Nat) : (s.advance n).pc.toNat = (s.pc.toNat + (1 + n)) % 65536 := by
  simp [BitVec.toNat_add]
  omega

end Sys2Proof.Machine
end

