-- ==== Sys2Proof/Laws/PerInstr.lean ====
section
/-! SUPPORT. The family DecoderRow: for each instruction, the decoder's matrix holds its pair at its opcode, and the pair
gives the instruction back (30_encoding.md R84, R93, R94). -/

namespace Sys2Proof.Laws.DecoderRow

/-- The matrix and the encoder's rows agree on the instruction. -/
def Statement (i : Instr) : Prop :=
  opcodeCell i.opcode = some (i.mnemonic, i.mode.kind) ∧ instrOfPair i.mnemonic i.mode = some i

theorem adcImm (b : Byte) : Statement (.adcImm b) :=
  ⟨show opcodeCell 0x69 = some (.ADC, .immediate) from rfl, rfl⟩
theorem adcZp (b : Byte) : Statement (.adcZp b) :=
  ⟨show opcodeCell 0x65 = some (.ADC, .zeroPage) from rfl, rfl⟩
theorem adcZpx (b : Byte) : Statement (.adcZpx b) :=
  ⟨show opcodeCell 0x75 = some (.ADC, .zeroPageX) from rfl, rfl⟩
theorem adcAbs (w : Word) : Statement (.adcAbs w) :=
  ⟨show opcodeCell 0x6D = some (.ADC, .absolute) from rfl, rfl⟩
theorem adcAbsx (w : Word) : Statement (.adcAbsx w) :=
  ⟨show opcodeCell 0x7D = some (.ADC, .absoluteX) from rfl, rfl⟩
theorem adcAbsy (w : Word) : Statement (.adcAbsy w) :=
  ⟨show opcodeCell 0x79 = some (.ADC, .absoluteY) from rfl, rfl⟩
theorem adcIndx (b : Byte) : Statement (.adcIndx b) :=
  ⟨show opcodeCell 0x61 = some (.ADC, .indexedIndirect) from rfl, rfl⟩
theorem adcIndy (b : Byte) : Statement (.adcIndy b) :=
  ⟨show opcodeCell 0x71 = some (.ADC, .indirectIndexed) from rfl, rfl⟩
theorem sbcImm (b : Byte) : Statement (.sbcImm b) :=
  ⟨show opcodeCell 0xE9 = some (.SBC, .immediate) from rfl, rfl⟩
theorem sbcZp (b : Byte) : Statement (.sbcZp b) :=
  ⟨show opcodeCell 0xE5 = some (.SBC, .zeroPage) from rfl, rfl⟩
theorem sbcZpx (b : Byte) : Statement (.sbcZpx b) :=
  ⟨show opcodeCell 0xF5 = some (.SBC, .zeroPageX) from rfl, rfl⟩
theorem sbcAbs (w : Word) : Statement (.sbcAbs w) :=
  ⟨show opcodeCell 0xED = some (.SBC, .absolute) from rfl, rfl⟩
theorem sbcAbsx (w : Word) : Statement (.sbcAbsx w) :=
  ⟨show opcodeCell 0xFD = some (.SBC, .absoluteX) from rfl, rfl⟩
theorem sbcAbsy (w : Word) : Statement (.sbcAbsy w) :=
  ⟨show opcodeCell 0xF9 = some (.SBC, .absoluteY) from rfl, rfl⟩
theorem sbcIndx (b : Byte) : Statement (.sbcIndx b) :=
  ⟨show opcodeCell 0xE1 = some (.SBC, .indexedIndirect) from rfl, rfl⟩
theorem sbcIndy (b : Byte) : Statement (.sbcIndy b) :=
  ⟨show opcodeCell 0xF1 = some (.SBC, .indirectIndexed) from rfl, rfl⟩
theorem andImm (b : Byte) : Statement (.andImm b) :=
  ⟨show opcodeCell 0x29 = some (.AND, .immediate) from rfl, rfl⟩
theorem andZp (b : Byte) : Statement (.andZp b) :=
  ⟨show opcodeCell 0x25 = some (.AND, .zeroPage) from rfl, rfl⟩
theorem andZpx (b : Byte) : Statement (.andZpx b) :=
  ⟨show opcodeCell 0x35 = some (.AND, .zeroPageX) from rfl, rfl⟩
theorem andAbs (w : Word) : Statement (.andAbs w) :=
  ⟨show opcodeCell 0x2D = some (.AND, .absolute) from rfl, rfl⟩
theorem andAbsx (w : Word) : Statement (.andAbsx w) :=
  ⟨show opcodeCell 0x3D = some (.AND, .absoluteX) from rfl, rfl⟩
theorem andAbsy (w : Word) : Statement (.andAbsy w) :=
  ⟨show opcodeCell 0x39 = some (.AND, .absoluteY) from rfl, rfl⟩
theorem andIndx (b : Byte) : Statement (.andIndx b) :=
  ⟨show opcodeCell 0x21 = some (.AND, .indexedIndirect) from rfl, rfl⟩
theorem andIndy (b : Byte) : Statement (.andIndy b) :=
  ⟨show opcodeCell 0x31 = some (.AND, .indirectIndexed) from rfl, rfl⟩
theorem oraImm (b : Byte) : Statement (.oraImm b) :=
  ⟨show opcodeCell 0x09 = some (.ORA, .immediate) from rfl, rfl⟩
theorem oraZp (b : Byte) : Statement (.oraZp b) :=
  ⟨show opcodeCell 0x05 = some (.ORA, .zeroPage) from rfl, rfl⟩
theorem oraZpx (b : Byte) : Statement (.oraZpx b) :=
  ⟨show opcodeCell 0x15 = some (.ORA, .zeroPageX) from rfl, rfl⟩
theorem oraAbs (w : Word) : Statement (.oraAbs w) :=
  ⟨show opcodeCell 0x0D = some (.ORA, .absolute) from rfl, rfl⟩
theorem oraAbsx (w : Word) : Statement (.oraAbsx w) :=
  ⟨show opcodeCell 0x1D = some (.ORA, .absoluteX) from rfl, rfl⟩
theorem oraAbsy (w : Word) : Statement (.oraAbsy w) :=
  ⟨show opcodeCell 0x19 = some (.ORA, .absoluteY) from rfl, rfl⟩
theorem oraIndx (b : Byte) : Statement (.oraIndx b) :=
  ⟨show opcodeCell 0x01 = some (.ORA, .indexedIndirect) from rfl, rfl⟩
theorem oraIndy (b : Byte) : Statement (.oraIndy b) :=
  ⟨show opcodeCell 0x11 = some (.ORA, .indirectIndexed) from rfl, rfl⟩
theorem eorImm (b : Byte) : Statement (.eorImm b) :=
  ⟨show opcodeCell 0x49 = some (.EOR, .immediate) from rfl, rfl⟩
theorem eorZp (b : Byte) : Statement (.eorZp b) :=
  ⟨show opcodeCell 0x45 = some (.EOR, .zeroPage) from rfl, rfl⟩
theorem eorZpx (b : Byte) : Statement (.eorZpx b) :=
  ⟨show opcodeCell 0x55 = some (.EOR, .zeroPageX) from rfl, rfl⟩
theorem eorAbs (w : Word) : Statement (.eorAbs w) :=
  ⟨show opcodeCell 0x4D = some (.EOR, .absolute) from rfl, rfl⟩
theorem eorAbsx (w : Word) : Statement (.eorAbsx w) :=
  ⟨show opcodeCell 0x5D = some (.EOR, .absoluteX) from rfl, rfl⟩
theorem eorAbsy (w : Word) : Statement (.eorAbsy w) :=
  ⟨show opcodeCell 0x59 = some (.EOR, .absoluteY) from rfl, rfl⟩
theorem eorIndx (b : Byte) : Statement (.eorIndx b) :=
  ⟨show opcodeCell 0x41 = some (.EOR, .indexedIndirect) from rfl, rfl⟩
theorem eorIndy (b : Byte) : Statement (.eorIndy b) :=
  ⟨show opcodeCell 0x51 = some (.EOR, .indirectIndexed) from rfl, rfl⟩
theorem aslAcc : Statement .aslAcc :=
  ⟨show opcodeCell 0x0A = some (.ASL, .accumulator) from rfl, rfl⟩
theorem aslZp (b : Byte) : Statement (.aslZp b) :=
  ⟨show opcodeCell 0x06 = some (.ASL, .zeroPage) from rfl, rfl⟩
theorem aslZpx (b : Byte) : Statement (.aslZpx b) :=
  ⟨show opcodeCell 0x16 = some (.ASL, .zeroPageX) from rfl, rfl⟩
theorem aslAbs (w : Word) : Statement (.aslAbs w) :=
  ⟨show opcodeCell 0x0E = some (.ASL, .absolute) from rfl, rfl⟩
theorem aslAbsx (w : Word) : Statement (.aslAbsx w) :=
  ⟨show opcodeCell 0x1E = some (.ASL, .absoluteX) from rfl, rfl⟩
theorem lsrAcc : Statement .lsrAcc :=
  ⟨show opcodeCell 0x4A = some (.LSR, .accumulator) from rfl, rfl⟩
theorem lsrZp (b : Byte) : Statement (.lsrZp b) :=
  ⟨show opcodeCell 0x46 = some (.LSR, .zeroPage) from rfl, rfl⟩
theorem lsrZpx (b : Byte) : Statement (.lsrZpx b) :=
  ⟨show opcodeCell 0x56 = some (.LSR, .zeroPageX) from rfl, rfl⟩
theorem lsrAbs (w : Word) : Statement (.lsrAbs w) :=
  ⟨show opcodeCell 0x4E = some (.LSR, .absolute) from rfl, rfl⟩
theorem lsrAbsx (w : Word) : Statement (.lsrAbsx w) :=
  ⟨show opcodeCell 0x5E = some (.LSR, .absoluteX) from rfl, rfl⟩
theorem rolAcc : Statement .rolAcc :=
  ⟨show opcodeCell 0x2A = some (.ROL, .accumulator) from rfl, rfl⟩
theorem rolZp (b : Byte) : Statement (.rolZp b) :=
  ⟨show opcodeCell 0x26 = some (.ROL, .zeroPage) from rfl, rfl⟩
theorem rolZpx (b : Byte) : Statement (.rolZpx b) :=
  ⟨show opcodeCell 0x36 = some (.ROL, .zeroPageX) from rfl, rfl⟩
theorem rolAbs (w : Word) : Statement (.rolAbs w) :=
  ⟨show opcodeCell 0x2E = some (.ROL, .absolute) from rfl, rfl⟩
theorem rolAbsx (w : Word) : Statement (.rolAbsx w) :=
  ⟨show opcodeCell 0x3E = some (.ROL, .absoluteX) from rfl, rfl⟩
theorem rorAcc : Statement .rorAcc :=
  ⟨show opcodeCell 0x6A = some (.ROR, .accumulator) from rfl, rfl⟩
theorem rorZp (b : Byte) : Statement (.rorZp b) :=
  ⟨show opcodeCell 0x66 = some (.ROR, .zeroPage) from rfl, rfl⟩
theorem rorZpx (b : Byte) : Statement (.rorZpx b) :=
  ⟨show opcodeCell 0x76 = some (.ROR, .zeroPageX) from rfl, rfl⟩
theorem rorAbs (w : Word) : Statement (.rorAbs w) :=
  ⟨show opcodeCell 0x6E = some (.ROR, .absolute) from rfl, rfl⟩
theorem rorAbsx (w : Word) : Statement (.rorAbsx w) :=
  ⟨show opcodeCell 0x7E = some (.ROR, .absoluteX) from rfl, rfl⟩
theorem cmpImm (b : Byte) : Statement (.cmpImm b) :=
  ⟨show opcodeCell 0xC9 = some (.CMP, .immediate) from rfl, rfl⟩
theorem cmpZp (b : Byte) : Statement (.cmpZp b) :=
  ⟨show opcodeCell 0xC5 = some (.CMP, .zeroPage) from rfl, rfl⟩
theorem cmpZpx (b : Byte) : Statement (.cmpZpx b) :=
  ⟨show opcodeCell 0xD5 = some (.CMP, .zeroPageX) from rfl, rfl⟩
theorem cmpAbs (w : Word) : Statement (.cmpAbs w) :=
  ⟨show opcodeCell 0xCD = some (.CMP, .absolute) from rfl, rfl⟩
theorem cmpAbsx (w : Word) : Statement (.cmpAbsx w) :=
  ⟨show opcodeCell 0xDD = some (.CMP, .absoluteX) from rfl, rfl⟩
theorem cmpAbsy (w : Word) : Statement (.cmpAbsy w) :=
  ⟨show opcodeCell 0xD9 = some (.CMP, .absoluteY) from rfl, rfl⟩
theorem cmpIndx (b : Byte) : Statement (.cmpIndx b) :=
  ⟨show opcodeCell 0xC1 = some (.CMP, .indexedIndirect) from rfl, rfl⟩
theorem cmpIndy (b : Byte) : Statement (.cmpIndy b) :=
  ⟨show opcodeCell 0xD1 = some (.CMP, .indirectIndexed) from rfl, rfl⟩
theorem cpxImm (b : Byte) : Statement (.cpxImm b) :=
  ⟨show opcodeCell 0xE0 = some (.CPX, .immediate) from rfl, rfl⟩
theorem cpxZp (b : Byte) : Statement (.cpxZp b) :=
  ⟨show opcodeCell 0xE4 = some (.CPX, .zeroPage) from rfl, rfl⟩
theorem cpxAbs (w : Word) : Statement (.cpxAbs w) :=
  ⟨show opcodeCell 0xEC = some (.CPX, .absolute) from rfl, rfl⟩
theorem cpyImm (b : Byte) : Statement (.cpyImm b) :=
  ⟨show opcodeCell 0xC0 = some (.CPY, .immediate) from rfl, rfl⟩
theorem cpyZp (b : Byte) : Statement (.cpyZp b) :=
  ⟨show opcodeCell 0xC4 = some (.CPY, .zeroPage) from rfl, rfl⟩
theorem cpyAbs (w : Word) : Statement (.cpyAbs w) :=
  ⟨show opcodeCell 0xCC = some (.CPY, .absolute) from rfl, rfl⟩
theorem incZp (b : Byte) : Statement (.incZp b) :=
  ⟨show opcodeCell 0xE6 = some (.INC, .zeroPage) from rfl, rfl⟩
theorem incZpx (b : Byte) : Statement (.incZpx b) :=
  ⟨show opcodeCell 0xF6 = some (.INC, .zeroPageX) from rfl, rfl⟩
theorem incAbs (w : Word) : Statement (.incAbs w) :=
  ⟨show opcodeCell 0xEE = some (.INC, .absolute) from rfl, rfl⟩
theorem incAbsx (w : Word) : Statement (.incAbsx w) :=
  ⟨show opcodeCell 0xFE = some (.INC, .absoluteX) from rfl, rfl⟩
theorem decZp (b : Byte) : Statement (.decZp b) :=
  ⟨show opcodeCell 0xC6 = some (.DEC, .zeroPage) from rfl, rfl⟩
theorem decZpx (b : Byte) : Statement (.decZpx b) :=
  ⟨show opcodeCell 0xD6 = some (.DEC, .zeroPageX) from rfl, rfl⟩
theorem decAbs (w : Word) : Statement (.decAbs w) :=
  ⟨show opcodeCell 0xCE = some (.DEC, .absolute) from rfl, rfl⟩
theorem decAbsx (w : Word) : Statement (.decAbsx w) :=
  ⟨show opcodeCell 0xDE = some (.DEC, .absoluteX) from rfl, rfl⟩
theorem inx : Statement .inx :=
  ⟨show opcodeCell 0xE8 = some (.INX, .implied) from rfl, rfl⟩
theorem iny : Statement .iny :=
  ⟨show opcodeCell 0xC8 = some (.INY, .implied) from rfl, rfl⟩
theorem dex : Statement .dex :=
  ⟨show opcodeCell 0xCA = some (.DEX, .implied) from rfl, rfl⟩
theorem dey : Statement .dey :=
  ⟨show opcodeCell 0x88 = some (.DEY, .implied) from rfl, rfl⟩
theorem tax : Statement .tax :=
  ⟨show opcodeCell 0xAA = some (.TAX, .implied) from rfl, rfl⟩
theorem txa : Statement .txa :=
  ⟨show opcodeCell 0x8A = some (.TXA, .implied) from rfl, rfl⟩
theorem tay : Statement .tay :=
  ⟨show opcodeCell 0xA8 = some (.TAY, .implied) from rfl, rfl⟩
theorem tya : Statement .tya :=
  ⟨show opcodeCell 0x98 = some (.TYA, .implied) from rfl, rfl⟩
theorem tsx : Statement .tsx :=
  ⟨show opcodeCell 0xBA = some (.TSX, .implied) from rfl, rfl⟩
theorem txs : Statement .txs :=
  ⟨show opcodeCell 0x9A = some (.TXS, .implied) from rfl, rfl⟩
theorem pha : Statement .pha :=
  ⟨show opcodeCell 0x48 = some (.PHA, .implied) from rfl, rfl⟩
theorem pla : Statement .pla :=
  ⟨show opcodeCell 0x68 = some (.PLA, .implied) from rfl, rfl⟩
theorem php : Statement .php :=
  ⟨show opcodeCell 0x08 = some (.PHP, .implied) from rfl, rfl⟩
theorem plp : Statement .plp :=
  ⟨show opcodeCell 0x28 = some (.PLP, .implied) from rfl, rfl⟩
theorem jsr (w : Word) : Statement (.jsr w) :=
  ⟨show opcodeCell 0x20 = some (.JSR, .absolute) from rfl, rfl⟩
theorem rts : Statement .rts :=
  ⟨show opcodeCell 0x60 = some (.RTS, .implied) from rfl, rfl⟩
theorem rti : Statement .rti :=
  ⟨show opcodeCell 0x40 = some (.RTI, .implied) from rfl, rfl⟩
theorem bpl (b : Byte) : Statement (.bpl b) :=
  ⟨show opcodeCell 0x10 = some (.BPL, .relative) from rfl, rfl⟩
theorem bmi (b : Byte) : Statement (.bmi b) :=
  ⟨show opcodeCell 0x30 = some (.BMI, .relative) from rfl, rfl⟩
theorem bvc (b : Byte) : Statement (.bvc b) :=
  ⟨show opcodeCell 0x50 = some (.BVC, .relative) from rfl, rfl⟩
theorem bvs (b : Byte) : Statement (.bvs b) :=
  ⟨show opcodeCell 0x70 = some (.BVS, .relative) from rfl, rfl⟩
theorem bcc (b : Byte) : Statement (.bcc b) :=
  ⟨show opcodeCell 0x90 = some (.BCC, .relative) from rfl, rfl⟩
theorem bcs (b : Byte) : Statement (.bcs b) :=
  ⟨show opcodeCell 0xB0 = some (.BCS, .relative) from rfl, rfl⟩
theorem bne (b : Byte) : Statement (.bne b) :=
  ⟨show opcodeCell 0xD0 = some (.BNE, .relative) from rfl, rfl⟩
theorem beq (b : Byte) : Statement (.beq b) :=
  ⟨show opcodeCell 0xF0 = some (.BEQ, .relative) from rfl, rfl⟩
theorem jmpAbs (w : Word) : Statement (.jmpAbs w) :=
  ⟨show opcodeCell 0x4C = some (.JMP, .absolute) from rfl, rfl⟩
theorem jmpInd (w : Word) : Statement (.jmpInd w) :=
  ⟨show opcodeCell 0x6C = some (.JMP, .indirect) from rfl, rfl⟩
theorem clc : Statement .clc :=
  ⟨show opcodeCell 0x18 = some (.CLC, .implied) from rfl, rfl⟩
theorem sec : Statement .sec :=
  ⟨show opcodeCell 0x38 = some (.SEC, .implied) from rfl, rfl⟩
theorem cli : Statement .cli :=
  ⟨show opcodeCell 0x58 = some (.CLI, .implied) from rfl, rfl⟩
theorem sei : Statement .sei :=
  ⟨show opcodeCell 0x78 = some (.SEI, .implied) from rfl, rfl⟩
theorem clv : Statement .clv :=
  ⟨show opcodeCell 0xB8 = some (.CLV, .implied) from rfl, rfl⟩
theorem cld : Statement .cld :=
  ⟨show opcodeCell 0xD8 = some (.CLD, .implied) from rfl, rfl⟩
theorem sed : Statement .sed :=
  ⟨show opcodeCell 0xF8 = some (.SED, .implied) from rfl, rfl⟩
theorem bitZp (b : Byte) : Statement (.bitZp b) :=
  ⟨show opcodeCell 0x24 = some (.BIT, .zeroPage) from rfl, rfl⟩
theorem bitAbs (w : Word) : Statement (.bitAbs w) :=
  ⟨show opcodeCell 0x2C = some (.BIT, .absolute) from rfl, rfl⟩
theorem nop : Statement .nop :=
  ⟨show opcodeCell 0xEA = some (.NOP, .implied) from rfl, rfl⟩
theorem brk : Statement .brk :=
  ⟨show opcodeCell 0x00 = some (.BRK, .implied) from rfl, rfl⟩
theorem ldaImm (b : Byte) : Statement (.ldaImm b) :=
  ⟨show opcodeCell 0xA9 = some (.LDA, .immediate) from rfl, rfl⟩
theorem ldaZp (b : Byte) : Statement (.ldaZp b) :=
  ⟨show opcodeCell 0xA5 = some (.LDA, .zeroPage) from rfl, rfl⟩
theorem ldaZpx (b : Byte) : Statement (.ldaZpx b) :=
  ⟨show opcodeCell 0xB5 = some (.LDA, .zeroPageX) from rfl, rfl⟩
theorem ldaAbs (w : Word) : Statement (.ldaAbs w) :=
  ⟨show opcodeCell 0xAD = some (.LDA, .absolute) from rfl, rfl⟩
theorem ldaAbsx (w : Word) : Statement (.ldaAbsx w) :=
  ⟨show opcodeCell 0xBD = some (.LDA, .absoluteX) from rfl, rfl⟩
theorem ldaAbsy (w : Word) : Statement (.ldaAbsy w) :=
  ⟨show opcodeCell 0xB9 = some (.LDA, .absoluteY) from rfl, rfl⟩
theorem ldaIndx (b : Byte) : Statement (.ldaIndx b) :=
  ⟨show opcodeCell 0xA1 = some (.LDA, .indexedIndirect) from rfl, rfl⟩
theorem ldaIndy (b : Byte) : Statement (.ldaIndy b) :=
  ⟨show opcodeCell 0xB1 = some (.LDA, .indirectIndexed) from rfl, rfl⟩
theorem ldxImm (b : Byte) : Statement (.ldxImm b) :=
  ⟨show opcodeCell 0xA2 = some (.LDX, .immediate) from rfl, rfl⟩
theorem ldxZp (b : Byte) : Statement (.ldxZp b) :=
  ⟨show opcodeCell 0xA6 = some (.LDX, .zeroPage) from rfl, rfl⟩
theorem ldxZpy (b : Byte) : Statement (.ldxZpy b) :=
  ⟨show opcodeCell 0xB6 = some (.LDX, .zeroPageY) from rfl, rfl⟩
theorem ldxAbs (w : Word) : Statement (.ldxAbs w) :=
  ⟨show opcodeCell 0xAE = some (.LDX, .absolute) from rfl, rfl⟩
theorem ldxAbsy (w : Word) : Statement (.ldxAbsy w) :=
  ⟨show opcodeCell 0xBE = some (.LDX, .absoluteY) from rfl, rfl⟩
theorem ldyImm (b : Byte) : Statement (.ldyImm b) :=
  ⟨show opcodeCell 0xA0 = some (.LDY, .immediate) from rfl, rfl⟩
theorem ldyZp (b : Byte) : Statement (.ldyZp b) :=
  ⟨show opcodeCell 0xA4 = some (.LDY, .zeroPage) from rfl, rfl⟩
theorem ldyZpx (b : Byte) : Statement (.ldyZpx b) :=
  ⟨show opcodeCell 0xB4 = some (.LDY, .zeroPageX) from rfl, rfl⟩
theorem ldyAbs (w : Word) : Statement (.ldyAbs w) :=
  ⟨show opcodeCell 0xAC = some (.LDY, .absolute) from rfl, rfl⟩
theorem ldyAbsx (w : Word) : Statement (.ldyAbsx w) :=
  ⟨show opcodeCell 0xBC = some (.LDY, .absoluteX) from rfl, rfl⟩
theorem staZp (b : Byte) : Statement (.staZp b) :=
  ⟨show opcodeCell 0x85 = some (.STA, .zeroPage) from rfl, rfl⟩
theorem staZpx (b : Byte) : Statement (.staZpx b) :=
  ⟨show opcodeCell 0x95 = some (.STA, .zeroPageX) from rfl, rfl⟩
theorem staAbs (w : Word) : Statement (.staAbs w) :=
  ⟨show opcodeCell 0x8D = some (.STA, .absolute) from rfl, rfl⟩
theorem staAbsx (w : Word) : Statement (.staAbsx w) :=
  ⟨show opcodeCell 0x9D = some (.STA, .absoluteX) from rfl, rfl⟩
theorem staAbsy (w : Word) : Statement (.staAbsy w) :=
  ⟨show opcodeCell 0x99 = some (.STA, .absoluteY) from rfl, rfl⟩
theorem staIndx (b : Byte) : Statement (.staIndx b) :=
  ⟨show opcodeCell 0x81 = some (.STA, .indexedIndirect) from rfl, rfl⟩
theorem staIndy (b : Byte) : Statement (.staIndy b) :=
  ⟨show opcodeCell 0x91 = some (.STA, .indirectIndexed) from rfl, rfl⟩
theorem stxZp (b : Byte) : Statement (.stxZp b) :=
  ⟨show opcodeCell 0x86 = some (.STX, .zeroPage) from rfl, rfl⟩
theorem stxZpy (b : Byte) : Statement (.stxZpy b) :=
  ⟨show opcodeCell 0x96 = some (.STX, .zeroPageY) from rfl, rfl⟩
theorem stxAbs (w : Word) : Statement (.stxAbs w) :=
  ⟨show opcodeCell 0x8E = some (.STX, .absolute) from rfl, rfl⟩
theorem styZp (b : Byte) : Statement (.styZp b) :=
  ⟨show opcodeCell 0x84 = some (.STY, .zeroPage) from rfl, rfl⟩
theorem styZpx (b : Byte) : Statement (.styZpx b) :=
  ⟨show opcodeCell 0x94 = some (.STY, .zeroPageX) from rfl, rfl⟩
theorem styAbs (w : Word) : Statement (.styAbs w) :=
  ⟨show opcodeCell 0x8C = some (.STY, .absolute) from rfl, rfl⟩

end Sys2Proof.Laws.DecoderRow
end

