-- ==== Sys2Proof/Laws/Step.lean ====
section
/-! SUPPORT. Everything a step can do, said once. -/

namespace Sys2Proof.Machine

/-- A next state comes from a running state, by an illegal opcode's fault entry or by evaluating the decoded instruction
(R5, R254). -/
theorem step_next {s t : State} (h : step s = .next t) :
    s.fault = none ∧
      ((∃ i, s.decodeHere = .instr i ∧ exec i s = .next t) ∨
        (∃ op, s.decodeHere = .illegalOpcode op ∧ t = s.raise (.illegalOpcode s.pc op))) := by
  unfold step at h
  split at h
  · cases h
  · rename_i hf
    refine ⟨hf, ?_⟩
    split at h
    · exact .inl ⟨_, ‹_›, h⟩
    · cases h
      exact .inr ⟨_, ‹_›, rfl⟩

/-- What a step keeps, a run of any number of steps keeps: each safety claim is then about one step. -/
theorem run_keeps {P : State → Prop} (hstep : ∀ s t, P s → step s = .next t → P t) (n : Nat) {s t : State}
    (hs : P s) (h : Sys2Proof.core.run n s = .next t) : P t := by
  induction n generalizing s with
  | zero => cases h; exact hs
  | succ n ih =>
    simp only [Host.Core.run] at h
    split at h
    · rename_i u hu
      exact ih (hstep s u hs hu) h
    · cases h
    · cases h

end Sys2Proof.Machine
end

