-- ==== Sys2Proof/Tests/Slice0.lean ====
section
/-! SUPPORT. Small tests of the model: the check of legality, decoding of words written out from the spec's Encoding
lines, single steps from the spec's vectors (95_test_vectors.md), and a witness for each statement's hypotheses. -/

namespace Sys2Proof.Tests

open Sys2Proof Sys2Proof.Machine

/-! ## WellFormed: the pairs the spec says cannot be built (95_test_vectors.md, after E16), and one legal pair -/

theorem test_illegal_adc_accumulator : legalPair .ADC .accumulator = false := by decide
theorem test_illegal_adc_zeroPageY : legalPair .ADC (.zeroPageY 0x10) = false := by decide
theorem test_illegal_sta_immediate : legalPair .STA (.immediate 0x10) = false := by decide
theorem test_illegal_jsr_indirect : legalPair .JSR (.indirect 0x1234) = false := by decide
theorem test_illegal_ldx_zeroPageX : legalPair .LDX (.zeroPageX 0x10) = false := by decide
theorem test_illegal_bit_immediate : legalPair .BIT (.immediate 0x10) = false := by decide
theorem test_illegal_pair_has_no_instruction : instrOfPair .STA (.immediate 0x10) = none := by decide
theorem test_legal_adc_immediate : legalPair .ADC (.immediate 0x05) = true := by decide

/-! ## Decoding: every constructor, from the bytes of its Encoding line (files 40 to 49); operands b = A5, w = C3A5 -/

/-- The decoder reads these bytes as this instruction, and the encoder gives the bytes back. -/
def decodesTo (bytes : List Byte) (i : Instr) : Bool :=
  decide (decode (fun k => bytes.getD k 0xEE) = .instr i) && decide (encode i = bytes)

theorem test_decode_arithmetic :
    ([([0x69, 0xA5], Instr.adcImm 0xA5), ([0x65, 0xA5], Instr.adcZp 0xA5), ([0x75, 0xA5], Instr.adcZpx 0xA5),
      ([0x6D, 0xA5, 0xC3], Instr.adcAbs 0xC3A5), ([0x7D, 0xA5, 0xC3], Instr.adcAbsx 0xC3A5), ([0x79, 0xA5, 0xC3], Instr.adcAbsy 0xC3A5),
      ([0x61, 0xA5], Instr.adcIndx 0xA5), ([0x71, 0xA5], Instr.adcIndy 0xA5), ([0xE9, 0xA5], Instr.sbcImm 0xA5),
      ([0xE5, 0xA5], Instr.sbcZp 0xA5), ([0xF5, 0xA5], Instr.sbcZpx 0xA5), ([0xED, 0xA5, 0xC3], Instr.sbcAbs 0xC3A5),
      ([0xFD, 0xA5, 0xC3], Instr.sbcAbsx 0xC3A5), ([0xF9, 0xA5, 0xC3], Instr.sbcAbsy 0xC3A5), ([0xE1, 0xA5], Instr.sbcIndx 0xA5),
      ([0xF1, 0xA5], Instr.sbcIndy 0xA5)] : List (List Byte × Instr)).all (fun p => decodesTo p.1 p.2) = true := by decide

theorem test_decode_logical :
    ([([0x29, 0xA5], Instr.andImm 0xA5), ([0x25, 0xA5], Instr.andZp 0xA5), ([0x35, 0xA5], Instr.andZpx 0xA5),
      ([0x2D, 0xA5, 0xC3], Instr.andAbs 0xC3A5), ([0x3D, 0xA5, 0xC3], Instr.andAbsx 0xC3A5), ([0x39, 0xA5, 0xC3], Instr.andAbsy 0xC3A5),
      ([0x21, 0xA5], Instr.andIndx 0xA5), ([0x31, 0xA5], Instr.andIndy 0xA5), ([0x09, 0xA5], Instr.oraImm 0xA5),
      ([0x05, 0xA5], Instr.oraZp 0xA5), ([0x15, 0xA5], Instr.oraZpx 0xA5), ([0x0D, 0xA5, 0xC3], Instr.oraAbs 0xC3A5),
      ([0x1D, 0xA5, 0xC3], Instr.oraAbsx 0xC3A5), ([0x19, 0xA5, 0xC3], Instr.oraAbsy 0xC3A5), ([0x01, 0xA5], Instr.oraIndx 0xA5),
      ([0x11, 0xA5], Instr.oraIndy 0xA5), ([0x49, 0xA5], Instr.eorImm 0xA5), ([0x45, 0xA5], Instr.eorZp 0xA5),
      ([0x55, 0xA5], Instr.eorZpx 0xA5), ([0x4D, 0xA5, 0xC3], Instr.eorAbs 0xC3A5), ([0x5D, 0xA5, 0xC3], Instr.eorAbsx 0xC3A5),
      ([0x59, 0xA5, 0xC3], Instr.eorAbsy 0xC3A5), ([0x41, 0xA5], Instr.eorIndx 0xA5), ([0x51, 0xA5], Instr.eorIndy 0xA5)] : List (List Byte × Instr)).all (fun p => decodesTo p.1 p.2) = true := by decide

theorem test_decode_shifts :
    ([([0x0A], Instr.aslAcc), ([0x06, 0xA5], Instr.aslZp 0xA5), ([0x16, 0xA5], Instr.aslZpx 0xA5),
      ([0x0E, 0xA5, 0xC3], Instr.aslAbs 0xC3A5), ([0x1E, 0xA5, 0xC3], Instr.aslAbsx 0xC3A5), ([0x4A], Instr.lsrAcc),
      ([0x46, 0xA5], Instr.lsrZp 0xA5), ([0x56, 0xA5], Instr.lsrZpx 0xA5), ([0x4E, 0xA5, 0xC3], Instr.lsrAbs 0xC3A5),
      ([0x5E, 0xA5, 0xC3], Instr.lsrAbsx 0xC3A5), ([0x2A], Instr.rolAcc), ([0x26, 0xA5], Instr.rolZp 0xA5),
      ([0x36, 0xA5], Instr.rolZpx 0xA5), ([0x2E, 0xA5, 0xC3], Instr.rolAbs 0xC3A5), ([0x3E, 0xA5, 0xC3], Instr.rolAbsx 0xC3A5),
      ([0x6A], Instr.rorAcc), ([0x66, 0xA5], Instr.rorZp 0xA5), ([0x76, 0xA5], Instr.rorZpx 0xA5),
      ([0x6E, 0xA5, 0xC3], Instr.rorAbs 0xC3A5), ([0x7E, 0xA5, 0xC3], Instr.rorAbsx 0xC3A5)] : List (List Byte × Instr)).all (fun p => decodesTo p.1 p.2) = true := by decide

theorem test_decode_compares :
    ([([0xC9, 0xA5], Instr.cmpImm 0xA5), ([0xC5, 0xA5], Instr.cmpZp 0xA5), ([0xD5, 0xA5], Instr.cmpZpx 0xA5),
      ([0xCD, 0xA5, 0xC3], Instr.cmpAbs 0xC3A5), ([0xDD, 0xA5, 0xC3], Instr.cmpAbsx 0xC3A5), ([0xD9, 0xA5, 0xC3], Instr.cmpAbsy 0xC3A5),
      ([0xC1, 0xA5], Instr.cmpIndx 0xA5), ([0xD1, 0xA5], Instr.cmpIndy 0xA5), ([0xE0, 0xA5], Instr.cpxImm 0xA5),
      ([0xE4, 0xA5], Instr.cpxZp 0xA5), ([0xEC, 0xA5, 0xC3], Instr.cpxAbs 0xC3A5), ([0xC0, 0xA5], Instr.cpyImm 0xA5),
      ([0xC4, 0xA5], Instr.cpyZp 0xA5), ([0xCC, 0xA5, 0xC3], Instr.cpyAbs 0xC3A5)] : List (List Byte × Instr)).all (fun p => decodesTo p.1 p.2) = true := by decide

theorem test_decode_incdec :
    ([([0xE6, 0xA5], Instr.incZp 0xA5), ([0xF6, 0xA5], Instr.incZpx 0xA5), ([0xEE, 0xA5, 0xC3], Instr.incAbs 0xC3A5),
      ([0xFE, 0xA5, 0xC3], Instr.incAbsx 0xC3A5), ([0xC6, 0xA5], Instr.decZp 0xA5), ([0xD6, 0xA5], Instr.decZpx 0xA5),
      ([0xCE, 0xA5, 0xC3], Instr.decAbs 0xC3A5), ([0xDE, 0xA5, 0xC3], Instr.decAbsx 0xC3A5), ([0xE8], Instr.inx),
      ([0xC8], Instr.iny), ([0xCA], Instr.dex), ([0x88], Instr.dey)] : List (List Byte × Instr)).all (fun p => decodesTo p.1 p.2) = true := by decide

theorem test_decode_transfers :
    ([([0xAA], Instr.tax), ([0x8A], Instr.txa), ([0xA8], Instr.tay),
      ([0x98], Instr.tya), ([0xBA], Instr.tsx), ([0x9A], Instr.txs)] : List (List Byte × Instr)).all (fun p => decodesTo p.1 p.2) = true := by decide

theorem test_decode_stack :
    ([([0x48], Instr.pha), ([0x68], Instr.pla), ([0x08], Instr.php),
      ([0x28], Instr.plp), ([0x20, 0xA5, 0xC3], Instr.jsr 0xC3A5), ([0x60], Instr.rts),
      ([0x40], Instr.rti)] : List (List Byte × Instr)).all (fun p => decodesTo p.1 p.2) = true := by decide

theorem test_decode_branches :
    ([([0x10, 0xA5], Instr.bpl 0xA5), ([0x30, 0xA5], Instr.bmi 0xA5), ([0x50, 0xA5], Instr.bvc 0xA5),
      ([0x70, 0xA5], Instr.bvs 0xA5), ([0x90, 0xA5], Instr.bcc 0xA5), ([0xB0, 0xA5], Instr.bcs 0xA5),
      ([0xD0, 0xA5], Instr.bne 0xA5), ([0xF0, 0xA5], Instr.beq 0xA5), ([0x4C, 0xA5, 0xC3], Instr.jmpAbs 0xC3A5),
      ([0x6C, 0xA5, 0xC3], Instr.jmpInd 0xC3A5)] : List (List Byte × Instr)).all (fun p => decodesTo p.1 p.2) = true := by decide

theorem test_decode_flags :
    ([([0x18], Instr.clc), ([0x38], Instr.sec), ([0x58], Instr.cli),
      ([0x78], Instr.sei), ([0xB8], Instr.clv), ([0xD8], Instr.cld),
      ([0xF8], Instr.sed), ([0x24, 0xA5], Instr.bitZp 0xA5), ([0x2C, 0xA5, 0xC3], Instr.bitAbs 0xC3A5),
      ([0xEA], Instr.nop), ([0x00], Instr.brk)] : List (List Byte × Instr)).all (fun p => decodesTo p.1 p.2) = true := by decide

theorem test_decode_loads :
    ([([0xA9, 0xA5], Instr.ldaImm 0xA5), ([0xA5, 0xA5], Instr.ldaZp 0xA5), ([0xB5, 0xA5], Instr.ldaZpx 0xA5),
      ([0xAD, 0xA5, 0xC3], Instr.ldaAbs 0xC3A5), ([0xBD, 0xA5, 0xC3], Instr.ldaAbsx 0xC3A5), ([0xB9, 0xA5, 0xC3], Instr.ldaAbsy 0xC3A5),
      ([0xA1, 0xA5], Instr.ldaIndx 0xA5), ([0xB1, 0xA5], Instr.ldaIndy 0xA5), ([0xA2, 0xA5], Instr.ldxImm 0xA5),
      ([0xA6, 0xA5], Instr.ldxZp 0xA5), ([0xB6, 0xA5], Instr.ldxZpy 0xA5), ([0xAE, 0xA5, 0xC3], Instr.ldxAbs 0xC3A5),
      ([0xBE, 0xA5, 0xC3], Instr.ldxAbsy 0xC3A5), ([0xA0, 0xA5], Instr.ldyImm 0xA5), ([0xA4, 0xA5], Instr.ldyZp 0xA5),
      ([0xB4, 0xA5], Instr.ldyZpx 0xA5), ([0xAC, 0xA5, 0xC3], Instr.ldyAbs 0xC3A5), ([0xBC, 0xA5, 0xC3], Instr.ldyAbsx 0xC3A5)] : List (List Byte × Instr)).all (fun p => decodesTo p.1 p.2) = true := by decide

theorem test_decode_stores :
    ([([0x85, 0xA5], Instr.staZp 0xA5), ([0x95, 0xA5], Instr.staZpx 0xA5), ([0x8D, 0xA5, 0xC3], Instr.staAbs 0xC3A5),
      ([0x9D, 0xA5, 0xC3], Instr.staAbsx 0xC3A5), ([0x99, 0xA5, 0xC3], Instr.staAbsy 0xC3A5), ([0x81, 0xA5], Instr.staIndx 0xA5),
      ([0x91, 0xA5], Instr.staIndy 0xA5), ([0x86, 0xA5], Instr.stxZp 0xA5), ([0x96, 0xA5], Instr.stxZpy 0xA5),
      ([0x8E, 0xA5, 0xC3], Instr.stxAbs 0xC3A5), ([0x84, 0xA5], Instr.styZp 0xA5), ([0x94, 0xA5], Instr.styZpx 0xA5),
      ([0x8C, 0xA5, 0xC3], Instr.styAbs 0xC3A5)] : List (List Byte × Instr)).all (fun p => decodesTo p.1 p.2) = true := by decide

theorem test_decode_illegal : decode (fun _ => 0x02) = .illegalOpcode 0x02 := by decide
theorem test_decode_top_of_memory :
    Memory.decodeAt [(0, 0x34), (1, 0x12), (0xFFFF, 0xAD)] 0xFFFF = .instr (.ldaAbs 0x1234) := by decide
theorem test_table_word_jmp : decodeTableWord 24 0x12344C = some (.jmpAbs 0x1234) := by decide
theorem test_table_word_short : decodeTableWord 8 0xFFFF69 = some (.adcImm 0x00) := by decide

/-! ## Single steps: vectors of 95_test_vectors.md (the number is in the name) -/

/-- All flags clear. -/
def noFlags : Flags := ⟨false, false, false, false, false, false, false⟩

/-- The default launch state at a PC, with the instruction's bytes there and further bytes in memory (R271). -/
def start (pc : Word) (bytes : List Byte) (cells : List (Word × Byte)) : State :=
  State.launch { initPC := pc, initMem := cells.foldl (fun m c => m.write c.1 c.2) (Memory.load [] pc bytes) }

/-- The next state of one step, if there is one. -/
def afterStep (s : State) : Option State :=
  match step s with
  | .next t => some t
  | .fault _ => none
  | .refused _ => none

theorem test_adc_T4 :
    let s := { start 0x0200 [0x69, 0x80] [] with a := 0x80, flags := { noFlags with C := false } }
    afterStep s = some { s with pc := 0x0202, a := 0x00, flags := { noFlags with C := true, Z := true, V := true } } := by decide
theorem test_adc_T5 :
    let s := { start 0x0200 [0x69, 0x00] [] with a := 0x7F, flags := { noFlags with C := true } }
    afterStep s = some { s with pc := 0x0202, a := 0x80, flags := { noFlags with C := false, V := true, N := true } } := by decide
theorem test_adc_T10 :
    let s := { start 0x0200 [0x65, 0x10] [(0x0010, 0x22)] with a := 0x11, flags := { noFlags with C := true } }
    afterStep s = some { s with pc := 0x0202, a := 0x34, flags := { noFlags with C := false } } := by decide
theorem test_adc_T11 :
    let s := { start 0x0200 [0x7D, 0x34, 0x12] [(0x1333, 0x01)] with a := 0x01, x := 0xFF }
    afterStep s = some { s with pc := 0x0203, a := 0x02 } := by decide
theorem test_sbc_T14 :
    let s := { start 0x0200 [0xE9, 0x10] [] with a := 0x50, flags := { noFlags with C := false } }
    afterStep s = some { s with pc := 0x0202, a := 0x40, flags := { noFlags with C := true } } := by decide
theorem test_sbc_T18 :
    let s := { start 0x0200 [0xE9, 0xFF] [] with a := 0x7F, flags := { noFlags with C := true } }
    afterStep s = some { s with pc := 0x0202, a := 0x80, flags := { noFlags with C := false, V := true, N := true } } := by decide
theorem test_and_T22 :
    let s := { start 0x0200 [0x29, 0x0F] [] with a := 0xF5 }
    afterStep s = some { s with pc := 0x0202, a := 0x05 } := by decide
theorem test_and_T24 :
    let s := { start 0x0200 [0x25, 0x10] [(0x0010, 0x80)] with a := 0xFF }
    afterStep s = some { s with pc := 0x0202, a := 0x80, flags := { noFlags with N := true } } := by decide
theorem test_ora_T25 :
    let s := { start 0x0200 [0x05, 0x10] [(0x0010, 0xF0)] with a := 0x0F }
    afterStep s = some { s with pc := 0x0202, flags := { noFlags with N := true }, mem := s.mem.write 0x0010 0xFF } := by decide
theorem test_ora_T27 :
    let s := { start 0x0200 [0x01, 0x20] [(0x0024, 0x00), (0x0025, 0x30), (0x3000, 0x01)] with a := 0x80, x := 0x04 }
    afterStep s = some { s with pc := 0x0202, flags := { noFlags with N := true }, mem := s.mem.write 0x3000 0x81 } := by decide
theorem test_eor_T28 :
    let s := { start 0x0200 [0x4D, 0x34, 0x12] [(0x1234, 0xFF)] with a := 0xFF }
    afterStep s = some { s with pc := 0x0203, flags := { noFlags with Z := true }, mem := s.mem.write 0x1234 0x00 } := by decide
theorem test_eor_T29 :
    let s := { start 0x0200 [0x55, 0x10] [(0x0015, 0x55)] with a := 0xAA, x := 0x05 }
    afterStep s = some { s with pc := 0x0202, flags := { noFlags with N := true }, mem := s.mem.write 0x0015 0xFF } := by decide
theorem test_ora_T30 :
    let s := { start 0x0200 [0x09, 0x01] [] with a := 0x10, flags := { noFlags with Z := true } }
    afterStep s = some { s with fault := some (.invalidOperation 0x200) } := by decide
theorem test_eor_T31 :
    let s := { start 0x0200 [0x49, 0xFF] [] with a := 0x0F, flags := { noFlags with N := true } }
    afterStep s = some { s with fault := some (.invalidOperation 0x200) } := by decide
theorem test_asl_T33 :
    let s := { start 0x0200 [0x0A] [] with a := 0x80 }
    afterStep s = some { s with pc := 0x0201, a := 0x00, flags := { noFlags with C := true, Z := true } } := by decide
theorem test_asl_T35 :
    let s := (start 0x0200 [0x06, 0x10] [(0x0010, 0xC0)])
    afterStep s = some { s with pc := 0x0202, flags := { noFlags with C := true, N := true }, mem := s.mem.write 0x0010 0x80 } := by decide
theorem test_lsr_T36 :
    let s := { start 0x0200 [0x4A] [] with a := 0x01 }
    afterStep s = some { s with pc := 0x0201, a := 0x00, flags := { noFlags with C := true, Z := true } } := by decide
theorem test_lsr_T37 :
    let s := { start 0x0200 [0x46, 0x10] [(0x0010, 0x03)] with flags := { noFlags with N := true } }
    afterStep s = some { s with pc := 0x0202, flags := { noFlags with C := true, N := false }, mem := s.mem.write 0x0010 0x01 } := by decide
theorem test_rol_T40 :
    let s := { start 0x0200 [0x2A] [] with a := 0x80, flags := { noFlags with C := false } }
    afterStep s = some { s with pc := 0x0201, a := 0x00, flags := { noFlags with C := true, Z := true } } := by decide
theorem test_rol_T42 :
    let s := { start 0x0200 [0x26, 0x10] [(0x0010, 0x55)] with flags := { noFlags with C := true } }
    afterStep s = some { s with pc := 0x0202, flags := { noFlags with C := false, N := true }, mem := s.mem.write 0x0010 0xAB } := by decide
theorem test_ror_T44 :
    let s := { start 0x0200 [0x6A] [] with a := 0x01, flags := { noFlags with C := true } }
    afterStep s = some { s with pc := 0x0201, a := 0x80, flags := { noFlags with C := true, N := true } } := by decide
theorem test_ror_T46 :
    let s := { start 0x0200 [0x7E, 0x34, 0x12] [(0x1235, 0x02)] with x := 0x01, flags := { noFlags with C := false } }
    afterStep s = some { s with pc := 0x0203, mem := s.mem.write 0x1235 0x01 } := by decide
theorem test_cmp_T49 :
    let s := { start 0x0200 [0xC9, 0x7F] [] with a := 0x80, flags := { noFlags with V := true } }
    afterStep s = some { s with pc := 0x0202, flags := { noFlags with C := true, V := true } } := by decide
theorem test_cmp_T51 :
    let s := { start 0x0200 [0xC9, 0x00] [] with a := 0xFF, flags := { noFlags with V := true } }
    afterStep s = some { s with pc := 0x0202, flags := { noFlags with C := true, V := true } } := by decide
theorem test_cpx_T54 :
    let s := { start 0x0200 [0xE4, 0x10] [(0x0010, 0x05)] with x := 0x05 }
    afterStep s = some { s with pc := 0x0202, flags := { noFlags with C := true, Z := true } } := by decide
theorem test_cpx_T55 :
    let s := { start 0x0200 [0xE0, 0x06] [] with x := 0x05 }
    afterStep s = some { s with pc := 0x0202, flags := { noFlags with N := true } } := by decide
theorem test_cpy_T56 :
    let s := { start 0x0200 [0xCC, 0x34, 0x12] [(0x1234, 0x01)] with y := 0x80 }
    afterStep s = some { s with pc := 0x0203, flags := { noFlags with C := true } } := by decide
theorem test_cpy_T57 :
    let s := { start 0x0200 [0xC0, 0x00] [] with y := 0x00, flags := { noFlags with N := true } }
    afterStep s = some { s with pc := 0x0202, flags := { noFlags with C := true, Z := true, N := false } } := by decide
theorem test_inc_T58 :
    let s := (start 0x0200 [0xE6, 0x10] [(0x0010, 0xFF)])
    afterStep s = some { s with pc := 0x0202, flags := { noFlags with Z := true }, mem := s.mem.write 0x0010 0x00 } := by decide
theorem test_inc_T60 :
    let s := { start 0x0200 [0xFE, 0xFF, 0x12] [(0x1300, 0x00)] with x := 0x01 }
    afterStep s = some { s with pc := 0x0203, mem := s.mem.write 0x1300 0x01 } := by decide
theorem test_dec_T61 :
    let s := (start 0x0200 [0xC6, 0x10] [(0x0010, 0x00)])
    afterStep s = some { s with pc := 0x0202, flags := { noFlags with N := true }, mem := s.mem.write 0x0010 0xFF } := by decide
theorem test_dec_T62 :
    let s := (start 0x0200 [0xC6, 0x10] [(0x0010, 0x01)])
    afterStep s = some { s with pc := 0x0202, flags := { noFlags with Z := true }, mem := s.mem.write 0x0010 0x00 } := by decide
theorem test_inx_T63 :
    let s := { start 0x0200 [0xE8] [] with x := 0xFF, flags := { noFlags with C := true } }
    afterStep s = some { s with pc := 0x0201, x := 0x00, flags := { noFlags with C := true, Z := true } } := by decide
theorem test_iny_T65 :
    let s := { start 0x0200 [0xC8] [] with y := 0xFF }
    afterStep s = some { s with pc := 0x0201, y := 0x00, flags := { noFlags with Z := true } } := by decide
theorem test_dex_T66 :
    let s := { start 0x0200 [0xCA] [] with x := 0x00 }
    afterStep s = some { s with pc := 0x0201, x := 0xFF, flags := { noFlags with N := true } } := by decide
theorem test_dey_T68 :
    let s := { start 0x0200 [0x88] [] with y := 0x00 }
    afterStep s = some { s with pc := 0x0201, y := 0xFF, flags := { noFlags with N := true } } := by decide
theorem test_tax_T70 :
    let s := { start 0x0200 [0xAA] [] with a := 0x00, x := 0x05 }
    afterStep s = some { s with pc := 0x0201, x := 0x00, flags := { noFlags with Z := true } } := by decide
theorem test_txa_T72 :
    let s := { start 0x0200 [0x8A] [] with a := 0xFF, x := 0x7F, flags := { noFlags with N := true } }
    afterStep s = some { s with pc := 0x0201, a := 0x7F, flags := { noFlags with N := false } } := by decide
theorem test_tay_T73 :
    let s := { start 0x0200 [0xA8] [] with a := 0xFF }
    afterStep s = some { s with pc := 0x0201, y := 0xFF, flags := { noFlags with N := true } } := by decide
theorem test_tya_T74 :
    let s := { start 0x0200 [0x98] [] with a := 0x01, y := 0x00 }
    afterStep s = some { s with pc := 0x0201, a := 0x00, flags := { noFlags with Z := true } } := by decide
theorem test_tsx_T75 :
    let s := { start 0x0200 [0xBA] [] with sp := 0xFF }
    afterStep s = some { s with pc := 0x0201, x := 0xFF, flags := { noFlags with N := true } } := by decide
theorem test_txs_T77 :
    let s := { start 0x0200 [0x9A] [] with x := 0x00, flags := { noFlags with N := true } }
    afterStep s = some { s with pc := 0x0201, sp := 0x00 } := by decide
theorem test_pha_T80 :
    let s := { start 0x0200 [0x48] [] with sp := 0x00, a := 0x42 }
    afterStep s = some { s with pc := 0x0201, sp := 0xFF, mem := s.mem.write 0x0100 0x42 } := by decide
theorem test_pla_T81 :
    let s := { start 0x0200 [0x68] [(0x01FF, 0x00)] with sp := 0xFE, a := 0x09 }
    afterStep s = some { s with pc := 0x0201, sp := 0xFF, a := 0x00, flags := { noFlags with Z := true } } := by decide
theorem test_pla_T82 :
    let s := { start 0x0200 [0x68] [(0x0100, 0x80)] with sp := 0xFF }
    afterStep s = some { s with pc := 0x0201, sp := 0x00, a := 0x80, flags := { noFlags with N := true } } := by decide
theorem test_php_T84 :
    let s := { start 0x0200 [0x08] [] with flags := { noFlags with C := true, Z := true, I := true, D := true, B := true, V := true, N := true } }
    afterStep s = some { s with pc := 0x0201, sp := 0xFE, mem := s.mem.write 0x01FF 0xFF } := by decide
theorem test_php_T85 :
    let s := { start 0x0200 [0x08] [] with flags := { noFlags with C := true, N := true } }
    afterStep s = some { s with pc := 0x0201, sp := 0xFE, mem := s.mem.write 0x01FF 0xA1 } := by decide
theorem test_plp_T86 :
    let s := { start 0x0200 [0x28] [(0x01FF, 0xFF)] with sp := 0xFE }
    afterStep s = some { s with pc := 0x0201, sp := 0xFF, flags := { noFlags with C := true, Z := true, I := true, D := true, B := true, V := true, N := true } } := by decide
theorem test_plp_T88 :
    let s := { start 0x0200 [0x28] [(0x01FF, 0x20)] with sp := 0xFE, flags := { noFlags with C := true } }
    afterStep s = some { s with pc := 0x0201, sp := 0xFF, flags := { noFlags with C := false } } := by decide
theorem test_jsr_T91 :
    let s := (start 0x02FE [0x20, 0x34, 0x12] [])
    afterStep s = some { s with pc := 0x1234, sp := 0xFD, mem := ((s.mem.write 0x01FE 0x00).write 0x01FF 0x03) } := by decide
theorem test_jsr_T92 :
    let s := { start 0x0200 [0x20, 0x34, 0x12] [] with sp := 0x00 }
    afterStep s = some { s with pc := 0x1234, sp := 0xFE, mem := ((s.mem.write 0x0100 0x02).write 0x01FF 0x02) } := by decide
theorem test_rts_T95 :
    let s := { start 0x8000 [0x60] [(0x01FE, 0xFF), (0x01FF, 0xFF)] with sp := 0xFD }
    afterStep s = some { s with pc := 0x0000, sp := 0xFF } := by decide
theorem test_rts_T96 :
    let s := { start 0x8000 [0x60] [(0x0100, 0x33), (0x0101, 0x44)] with sp := 0xFF }
    afterStep s = some { s with pc := 0x4434, sp := 0x01 } := by decide
theorem test_rti_T97 :
    let s := { start 0x8000 [0x40] [(0x01FD, 0xC3), (0x01FE, 0x34), (0x01FF, 0x12)] with sp := 0xFC }
    afterStep s = some { s with pc := 0x1234, sp := 0xFF, flags := { noFlags with C := true, Z := true, V := true, N := true } } := by decide
theorem test_beq_T100 :
    let s := { start 0x0210 [0xF0, 0xFA] [] with flags := { noFlags with Z := true } }
    afterStep s = some { s with pc := 0x020C } := by decide
theorem test_bpl_T102 :
    let s := { start 0x0200 [0x10, 0x80] [] with flags := { noFlags with N := false } }
    afterStep s = some { s with pc := 0x0182 } := by decide
theorem test_bmi_T104 :
    let s := { start 0x0200 [0x30, 0x02] [] with flags := { noFlags with N := true } }
    afterStep s = some { s with pc := 0x0204 } := by decide
theorem test_bvc_T107 :
    let s := { start 0x0200 [0x50, 0x02] [] with flags := { noFlags with V := true } }
    afterStep s = some { s with pc := 0x0202 } := by decide
theorem test_bvs_T108 :
    let s := { start 0x0200 [0x70, 0x02] [] with flags := { noFlags with V := true } }
    afterStep s = some { s with pc := 0x0204 } := by decide
theorem test_bcc_T110 :
    let s := { start 0x0200 [0x90, 0x02] [] with flags := { noFlags with C := false } }
    afterStep s = some { s with pc := 0x0204 } := by decide
theorem test_bcs_T115 :
    let s := { start 0xFFFE [0xB0, 0x02] [] with flags := { noFlags with C := true } }
    afterStep s = some { s with pc := 0x0002 } := by decide
theorem test_bne_T116 :
    let s := (start 0x0000 [0xD0, 0xFD] [])
    afterStep s = some { s with pc := 0xFFFF } := by decide
theorem test_jmp_T119 :
    let s := (start 0x0200 [0x6C, 0xFF, 0x12] [(0x1200, 0x80), (0x12FF, 0x00), (0x1300, 0x40)])
    afterStep s = some { s with pc := 0x4000 } := by decide
theorem test_jmp_T120 :
    let s := (start 0x0200 [0x6C, 0xFF, 0xFF] [(0x0000, 0x22), (0xFFFF, 0x11)])
    afterStep s = some { s with pc := 0x2211 } := by decide
theorem test_jmp_T121 :
    let s := (start 0x0200 [0x4C, 0x00, 0x02] [])
    afterStep s = some { s with pc := 0x0200 } := by decide
theorem test_clc_T122 :
    let s := { start 0x0200 [0x18] [] with flags := { noFlags with C := true } }
    afterStep s = some { s with pc := 0x0201, flags := { noFlags with C := false } } := by decide
theorem test_sec_T123 :
    let s := (start 0x0200 [0x38] [])
    afterStep s = some { s with pc := 0x0201, flags := { noFlags with C := true } } := by decide
theorem test_cli_T124 :
    let s := { start 0x0200 [0x58] [] with flags := { noFlags with I := true } }
    afterStep s = some { s with pc := 0x0201, flags := { noFlags with I := false } } := by decide
theorem test_sei_T125 :
    let s := (start 0x0200 [0x78] [])
    afterStep s = some { s with pc := 0x0201, flags := { noFlags with I := true } } := by decide
theorem test_clv_T126 :
    let s := { start 0x0200 [0xB8] [] with flags := { noFlags with V := true } }
    afterStep s = some { s with pc := 0x0201, flags := { noFlags with V := false } } := by decide
theorem test_cld_T127 :
    let s := { start 0x0200 [0xD8] [] with flags := { noFlags with D := true } }
    afterStep s = some { s with pc := 0x0201, flags := { noFlags with D := false } } := by decide
theorem test_sed_T128 :
    let s := (start 0x0200 [0xF8] [])
    afterStep s = some { s with pc := 0x0201, flags := { noFlags with D := true } } := by decide
theorem test_bit_T130 :
    let s := { start 0x0200 [0x24, 0x10] [(0x0010, 0xC0)] with a := 0x01 }
    afterStep s = some { s with pc := 0x0202, flags := { noFlags with Z := true, V := true, N := true } } := by decide
theorem test_bit_T132 :
    let s := { start 0x0200 [0x2C, 0x34, 0x12] [(0x1234, 0x3F)] with a := 0xFF, flags := { noFlags with C := true, V := true, N := true } }
    afterStep s = some { s with pc := 0x0203, flags := { noFlags with C := true, V := false, N := false } } := by decide
theorem test_nop_T134 :
    let s := { start 0x0200 [0xEA] [] with flags := { noFlags with C := true, N := true } }
    afterStep s = some { s with pc := 0x0201 } := by decide
theorem test_brk_T136 :
    let s := (start 0xFFFF [0x00] [])
    afterStep s = some { s with pc := 0x0000 } := by decide
theorem test_lda_T139 :
    let s := { start 0x0200 [0xB5, 0x10] [(0x000F, 0x77), (0x010F, 0x66)] with x := 0xFF }
    afterStep s = some { s with pc := 0x0202, a := 0x77 } := by decide
theorem test_lda_T141 :
    let s := { start 0x0200 [0xA1, 0xFE] [(0x0001, 0x00), (0x0002, 0x40), (0x4000, 0x81)] with x := 0x03 }
    afterStep s = some { s with pc := 0x0202, a := 0x81, flags := { noFlags with N := true } } := by decide
theorem test_lda_T142 :
    let s := { start 0x0200 [0xA1, 0xFF] [(0x0000, 0x99), (0x00FF, 0x34), (0x0100, 0x12), (0x1234, 0x5A), (0x9934, 0xEE)] with x := 0x00 }
    afterStep s = some { s with pc := 0x0202, a := 0x5A } := by decide
theorem test_lda_T143 :
    let s := { start 0x0200 [0xB1, 0xFF] [(0x0000, 0x77), (0x00FF, 0xFF), (0x0100, 0x12), (0x1300, 0x21)] with y := 0x01 }
    afterStep s = some { s with pc := 0x0202, a := 0x21 } := by decide
theorem test_lda_T144 :
    let s := { start 0x0200 [0xB1, 0x10] [(0x0000, 0x3C), (0x0010, 0xFF), (0x0011, 0xFF)] with y := 0x01 }
    afterStep s = some { s with pc := 0x0202, a := 0x3C } := by decide
theorem test_ldx_T145 :
    let s := { start 0x0200 [0xB6, 0xFF] [(0x0001, 0x7E)] with y := 0x02 }
    afterStep s = some { s with pc := 0x0202, x := 0x7E } := by decide
theorem test_ldx_T146 :
    let s := { start 0x0200 [0xA2, 0x00] [] with x := 0x01 }
    afterStep s = some { s with pc := 0x0202, x := 0x00, flags := { noFlags with Z := true } } := by decide
theorem test_ldy_T147 :
    let s := (start 0x0200 [0xA0, 0x80] [])
    afterStep s = some { s with pc := 0x0202, y := 0x80, flags := { noFlags with N := true } } := by decide
theorem test_ldy_T148 :
    let s := { start 0x0200 [0xBC, 0x34, 0x12] [(0x1236, 0x00)] with x := 0x02, y := 0x09 }
    afterStep s = some { s with pc := 0x0203, y := 0x00, flags := { noFlags with Z := true } } := by decide
theorem test_sta_T149 :
    let s := { start 0x0200 [0x8D, 0x00, 0x02] [] with a := 0x42 }
    afterStep s = some { s with pc := 0x0203, mem := s.mem.write 0x0200 0x42 } := by decide
theorem test_sta_T150 :
    let s := { start 0x0200 [0x95, 0x10] [] with a := 0x99, x := 0xF5, flags := { noFlags with Z := true } }
    afterStep s = some { s with pc := 0x0202, mem := s.mem.write 0x0005 0x99 } := by decide
theorem test_sta_T151 :
    let s := { start 0x0200 [0x91, 0x20] [(0x0020, 0x00), (0x0021, 0x30)] with a := 0x55, y := 0x10 }
    afterStep s = some { s with pc := 0x0202, mem := s.mem.write 0x3010 0x55 } := by decide
theorem test_sta_T152 :
    let s := { start 0x0200 [0x81, 0x20] [(0x0022, 0x00), (0x0023, 0x30)] with a := 0x56, x := 0x02 }
    afterStep s = some { s with pc := 0x0202, mem := s.mem.write 0x3000 0x56 } := by decide
theorem test_stx_T155 :
    let s := { start 0x0200 [0x96, 0xF0] [] with x := 0x07, y := 0x20 }
    afterStep s = some { s with pc := 0x0202, mem := s.mem.write 0x0010 0x07 } := by decide
theorem test_sty_T156 :
    let s := { start 0x0200 [0x94, 0xF0] [] with x := 0x20, y := 0x07 }
    afterStep s = some { s with pc := 0x0202, mem := s.mem.write 0x0010 0x07 } := by decide
theorem test_sty_T157 :
    let s := { start 0x0200 [0x8C, 0x34, 0x12] [] with y := 0x80 }
    afterStep s = some { s with pc := 0x0203, mem := s.mem.write 0x1234 0x80 } := by decide
theorem test_illegal_T158 :
    let s := { start 0x0200 [0x02, 0x11, 0x22] [] with a := 0x01 }
    afterStep s = some { s with fault := some (.illegalOpcode 0x200 0x2) } := by decide
theorem test_illegal_T163 :
    let s := { start 0x0200 [0xEB, 0x11, 0x22] [] with a := 0x01 }
    afterStep s = some { s with fault := some (.illegalOpcode 0x200 0xEB) } := by decide
theorem test_lda_T164 :
    let s := (start 0xFFFF [0xAD] [(0x0000, 0x34), (0x0001, 0x12), (0x1234, 0x9A)])
    afterStep s = some { s with pc := 0x0002, a := 0x9A, flags := { noFlags with N := true } } := by decide

/-- P6 (b) of 95_test_vectors.md, its end: a faulted machine takes no step and answers its fault. -/
theorem test_faulted_takes_no_step :
    (match step { start 0x0201 [0x02] [] with fault := some (.illegalOpcode 0x0201 0x02) } with
    | .fault f => some f
    | _ => none) = some (.illegalOpcode 0x0201 0x02) := by decide

/-! ## Memory and reset -/

theorem test_write_unlisted_removes : Memory.write [(5, 0x07)] 5 0x00 = [] := by decide
theorem test_write_keeps_order : Memory.write [(5, 0x07)] 3 0x01 = [(3, 0x01), (5, 0x07)] := by decide
theorem test_wf_refuses_order : Memory.wf [(5, 0x07), (3, 0x01)] = false := by decide
theorem test_wf_refuses_unlisted_value : Memory.wf [(5, 0x00)] = false := by decide
theorem test_reset_memory_wf : State.reset.mem.wf = true := by decide
theorem test_fetch_word_runs : afterStep (State.reset.withFetchWord 16 0x0569) =
    some { State.reset.withFetchWord 16 0x0569 with pc := 0x0202, a := 0x05 } := by decide

/-! ## Witnesses: concrete states and operands that meet the hypotheses of each statement that has any, one for each
clause, at a boundary where there is one -/

theorem witness_DecodeOfEncodeGivesTheInstruction :
    let m : Memory := [(0, 0x34), (1, 0x12), (0xFFFF, 0xAD)]
    ∀ (k : Nat) (h : k < (encode (.ldaAbs 0x1234)).length),
      m.read (BitVec.ofNat 16 ((0xFFFF + k) % 65536)) = (encode (.ldaAbs 0x1234))[k] := by decide
theorem witness_EncodeOfDecodeGivesTheBytes :
    Memory.decodeAt [(0, 0x34), (1, 0x12), (0xFFFF, 0xAD)] 0xFFFF = .instr (.ldaAbs 0x1234) ∧
    encode .nop = encode .nop := by decide
theorem witness_LegalPairsAreTheRowsOfTheTable :
    opcodeCell 0x00 = some (.BRK, .implied) ∧ opcodeCell 0xFE = some (.INC, .absoluteX) ∧
    legalPair .INC (.absoluteX 0xFFFF) = true := by decide
theorem witness_IllegalBytesRaiseIllegalOpcode :
    (start 0xFFFF [0x02] []).fault = none ∧ (start 0xFFFF [0x02] []).mem.read 0xFFFF = 0x02 ∧
    (start 0x0000 [0xFF] []).fault = none ∧ (start 0x0000 [0xFF] []).mem.read 0x0000 = 0xFF := by decide
theorem witness_PlacedWordIsTheNextInstruction :
    decodeTableWord 24 0x12344C = some (.jmpAbs 0x1234) ∧
    ∀ k : Nat, k < 3 → (0x0002 : Word).toNat ≠ ((0xFFFF : Word).toNat + k) % 65536 := by decide
theorem witness_StepEvaluatesTheDecodedInstruction :
    (start 0x0200 [0x69, 0x05] []).fault = none ∧ (start 0x0200 [0x69, 0x05] []).decodeHere = .instr (.adcImm 0x05) ∧
    (∀ (k : Nat) (h : k < (encode (.adcImm 0x05)).length), (start 0xFFFF [0x69, 0x05] []).mem.read
      (BitVec.ofNat 16 (((0xFFFF : Word).toNat + k) % 65536)) = (encode (.adcImm 0x05))[k]) ∧
    (start 0x0200 [0x02] []).decodeHere = .illegalOpcode 0x02 ∧
    ({ start 0x0200 [] [] with fault := some (.invalidOperation 0x0200) } : State).fault =
      some (.invalidOperation 0x0200) := by decide
theorem witness_FaultEntryChangesOnlyTheFaultStatus :
    (∃ s t f, s.fault = none ∧ step s = .next t ∧ t.fault = some f) ∧
    (∃ i s t, State.fault s ≠ none ∧ exec i s = .next t) :=
  ⟨⟨start 0x0200 [0x09, 0x01] [], _, _, rfl, rfl, rfl⟩,
    ⟨.nop, { start 0x0200 [] [] with fault := some (.invalidOperation 0x0200) }, _, by decide, rfl⟩⟩
theorem witness_OnlyOraAndEorImmediateRaise :
    ∃ s t u, State.fault s = none ∧ exec (.oraImm 0x01) s = .next t ∧ exec .nop s = .next u :=
  ⟨start 0x0200 [] [], _, _, rfl, rfl, rfl⟩
theorem witness_RunningMachineAlwaysSteps : (start 0xFFFF [0x00] []).fault = none := by decide
theorem witness_EveryStepKeepsTheInvariant : ∃ s t, State.Inv s ∧ step s = .next t :=
  ⟨State.reset, _, ⟨rfl, trivial⟩, rfl⟩
theorem witness_CanonicalMemoriesThatReadAlikeAreEqual :
    Memory.wf [(0, 0x01), (0xFFFF, 0xFF)] = true ∧
    ∀ a, Memory.read [(0, 0x01), (0xFFFF, 0xFF)] a = Memory.read [(0, 0x01), (0xFFFF, 0xFF)] a := ⟨by decide, fun _ => rfl⟩
theorem witness_PushesStayInTheStackPage : (List.replicate 256 (0x00 : Byte)).length = 256 ∧
    (0x00FF : Word).toNat < 0x0100 ∧ 0x01FF < (0x0200 : Word).toNat :=
  ⟨List.length_replicate, by decide, by decide⟩
theorem witness_LoadPlacesEveryByte :
    ([0x69, 0x05] : List Byte).length ≤ 65536 ∧
    ∀ k : Nat, k < ([0x69, 0x05] : List Byte).length → (0x0001 : Word).toNat ≠ ((0xFFFF : Word).toNat + k) % 65536 := by
  decide
theorem witness_NextFetchSeesTheStore :
    ∃ s t, State.fault s = none ∧ s.decodeHere = .instr (.staAbs 0x0205) ∧ step s = .next t :=
  ⟨start 0x0202 [0x8D, 0x05, 0x02] [], _, rfl, by decide, rfl⟩
theorem witness_ZeroPageModesStayInTheZeroPage :
    ({ start 0x0200 [] [] with x := 0x02 } : State).x = 0x02 ∧ (Instr.ldxZpy 0xFF).mode.kind = .zeroPageY ∧
    (Instr.stxZpy 0xFF).mode.kind = .zeroPageY := by decide
theorem witness_IndirectModesFollowLinearPointers : (Instr.jmpInd 0x12FF).mode.kind = .indirect := by decide
theorem witness_ModesSupportTheirOperations :
    Instr.aslAcc.mode.kind = .accumulator ∧ Instr.rorAcc.mode.kind = .accumulator := by decide
theorem witness_AdcAddsOperandAndCarry :
    (Instr.adcImm 0xFF).mnemonic = .ADC ∧ (Instr.adcIndy 0xFF).mnemonic = .ADC := by decide
theorem witness_SbcSubtractsWithoutBorrow :
    (Instr.sbcImm 0xFF).mnemonic = .SBC ∧ (Instr.sbcIndy 0xFF).mnemonic = .SBC := by decide
theorem witness_AndWritesTheAccumulator :
    (Instr.andImm 0xFF).mnemonic = .AND ∧ (Instr.andIndy 0xFF).mnemonic = .AND := by decide
theorem witness_OraAndEorWriteBackThroughTheMode :
    ((Instr.oraZp 0x00).mnemonic = .ORA ∧ (Instr.oraZp 0x00).mode.kind ≠ .immediate) ∧
    ((Instr.eorIndy 0xFF).mnemonic = .EOR ∧ (Instr.eorIndy 0xFF).mode.kind ≠ .immediate) := by decide
theorem witness_AslAndLsrShiftByOne : Instr.aslAcc.mnemonic = .ASL ∧ (Instr.lsrAbsx 0xFFFF).mnemonic = .LSR := by decide
theorem witness_RolAndRorRotateThroughCarry :
    Instr.rolAcc.mnemonic = .ROL ∧ (Instr.rorAbsx 0xFFFF).mnemonic = .ROR := by decide
theorem witness_NineRotationsRestorePlaceAndCarry :
    (Instr.rolAbs 0x0200).mnemonic = .ROL ∧ Instr.rorAcc.mnemonic = .ROR := by decide
theorem witness_ComparesOrderUnsignedValues :
    ((Instr.cmpIndy 0xFF).mnemonic = .CMP ∧ State.reset.a = State.reset.a) ∧
    ((Instr.cpxImm 0x00).mnemonic = .CPX ∧ State.reset.x = State.reset.x) ∧
    ((Instr.cpyAbs 0xFFFF).mnemonic = .CPY ∧ State.reset.y = State.reset.y) := by decide
theorem witness_IncAndDecModifyMemory :
    (Instr.incZp 0xFF).mnemonic = .INC ∧ (Instr.decAbsx 0xFFFF).mnemonic = .DEC := by decide
theorem witness_RtsReturnsAfterItsJsr :
    ∃ s t u, exec (.jsr 0x8000) s = .next t ∧ State.sp u = State.sp t ∧
      State.mem u = State.mem t :=
  ⟨{ start 0xFFFD [] [] with sp := 0x00 }, _, _, rfl, rfl, rfl⟩
theorem witness_BranchesFollowTheirCondition :
    State.reset.flags.N = false ∧ ({ start 0xFFFE [] [] with flags := { noFlags with N := true } } : State).flags.N = true :=
  by decide
theorem witness_BitTestsTheOperand : (Instr.bitZp 0xFF).mnemonic = .BIT ∧ (Instr.bitAbs 0xFFFF).mnemonic = .BIT := by
  decide
theorem witness_NopAndBrkAdvanceOnly : Instr.nop = .nop ∧ Instr.brk = .brk := by decide
theorem witness_LoadsWriteTheirRegister :
    (Instr.ldaIndy 0xFF).mnemonic = .LDA ∧ (Instr.ldxZpy 0xFF).mnemonic = .LDX ∧ (Instr.ldyZpx 0xFF).mnemonic = .LDY := by
  decide
theorem witness_StoresWriteOneByte :
    ((Instr.staIndy 0xFF).mnemonic = .STA ∧ State.reset.a = State.reset.a) ∧
    ((Instr.stxZpy 0xFF).mnemonic = .STX ∧ State.reset.x = State.reset.x) ∧
    ((Instr.styZpx 0xFF).mnemonic = .STY ∧ State.reset.y = State.reset.y) := by decide
theorem witness_FlagsChangeOnlyByTheirWriters :
    (∃ s t, exec .sec s = .next t ∧ t.flags.C ≠ s.flags.C) ∧ (∃ s t, exec .inx s = .next t ∧ t.flags.N ≠ s.flags.N) ∧
    (∃ s t, exec .tax s = .next t ∧ t.flags.Z ≠ s.flags.Z) ∧ (∃ s t, exec .clv s = .next t ∧ t.flags.V ≠ s.flags.V) ∧
    (∃ s t, exec .sei s = .next t ∧ t.flags.I ≠ s.flags.I) ∧ (∃ s t, exec .sed s = .next t ∧ t.flags.D ≠ s.flags.D) ∧
    (∃ s t, exec .plp s = .next t ∧ t.flags.B ≠ s.flags.B) :=
  ⟨⟨State.reset, _, rfl, by decide⟩, ⟨{ State.reset with x := 0x7F }, _, rfl, by decide⟩,
    ⟨State.reset, _, rfl, by decide⟩, ⟨{ State.reset with flags := { noFlags with V := true } }, _, rfl, by decide⟩,
    ⟨State.reset, _, rfl, by decide⟩, ⟨State.reset, _, rfl, by decide⟩,
    ⟨{ start 0x0200 [] [(0x0100, 0x10)] with sp := 0xFF }, _, rfl, by decide⟩⟩
theorem witness_FlagsAreReadOnlyByTheirReaders :
    Instr.nop.mnemonic ∉ [.ADC, .ROL, .ROR, .BCC, .BCS, .PHP] ∧ Instr.nop.mnemonic ∉ [.BNE, .BEQ, .PHP] ∧
    Instr.nop.mnemonic ∉ [.BVC, .BVS, .PHP] ∧ Instr.nop.mnemonic ∉ [.BPL, .BMI, .PHP] ∧
    (Instr.adcImm 0x09).mnemonic ≠ .PHP := by decide
theorem witness_RegistersChangeOnlyByTheirWriters :
    (∃ s t, exec (.ldaImm 0x05) s = .next t ∧ t.a ≠ s.a) ∧
    (∃ s t, exec .rorAcc s = .next t ∧ t.a ≠ s.a) ∧ (∃ s t, exec .inx s = .next t ∧ t.x ≠ s.x) ∧
    (∃ s t, exec .dey s = .next t ∧ t.y ≠ s.y) ∧ (∃ s t, exec .txs s = .next t ∧ t.sp ≠ s.sp) :=
  ⟨⟨State.reset, _, rfl, by decide⟩, ⟨{ State.reset with a := 0x02 }, _, rfl, by decide⟩,
    ⟨State.reset, _, rfl, by decide⟩, ⟨State.reset, _, rfl, by decide⟩, ⟨State.reset, _, rfl, by decide⟩⟩
theorem witness_OtherInstructionsAdvanceByTheirLength :
    ∃ s t, State.fault s = none ∧ exec (.ldaAbs 0x1234) s = .next t ∧ t.fault = none ∧ (Instr.ldaAbs 0x1234).mnemonic ∉
      [.JMP, .JSR, .RTS, .RTI, .BPL, .BMI, .BVC, .BVS, .BCC, .BCS, .BNE, .BEQ] :=
  ⟨start 0xFFFF [] [], _, rfl, rfl, rfl, by decide⟩
theorem witness_MemoryChangesOnlyByStoresAndPushes :
    (∃ s t, exec (.incAbs 0xFFFF) s = .next t ∧ t.mem.read 0xFFFF ≠ s.mem.read 0xFFFF) ∧
    (∃ s t, exec .php s = .next t ∧ t.mem.read 0x01FF ≠ s.mem.read 0x01FF) :=
  ⟨⟨State.reset, _, rfl, by decide⟩, ⟨State.reset, _, rfl, by decide⟩⟩

end Sys2Proof.Tests
end

section
/-! Decode undoes Encode (30_encoding.md R90): the row facts of the 151 instructions joined into one fact about every
instruction, and from it what the decoder answers for encoded bytes. -/

namespace Sys2Proof

open Laws.DecoderRow in
/-- The matrix and the encoder's rows agree on every instruction (R84, R93, R94). -/
theorem decoderRow (i : Instr) : Statement i :=
  i.casesOn
    adcImm adcZp adcZpx adcAbs adcAbsx adcAbsy adcIndx adcIndy sbcImm sbcZp sbcZpx sbcAbs sbcAbsx sbcAbsy
    sbcIndx sbcIndy andImm andZp andZpx andAbs andAbsx andAbsy andIndx andIndy oraImm oraZp oraZpx oraAbs
    oraAbsx oraAbsy oraIndx oraIndy eorImm eorZp eorZpx eorAbs eorAbsx eorAbsy eorIndx eorIndy aslAcc aslZp
    aslZpx aslAbs aslAbsx lsrAcc lsrZp lsrZpx lsrAbs lsrAbsx rolAcc rolZp rolZpx rolAbs rolAbsx rorAcc rorZp
    rorZpx rorAbs rorAbsx cmpImm cmpZp cmpZpx cmpAbs cmpAbsx cmpAbsy cmpIndx cmpIndy cpxImm cpxZp cpxAbs cpyImm
    cpyZp cpyAbs incZp incZpx incAbs incAbsx decZp decZpx decAbs decAbsx inx iny dex dey tax txa tay tya tsx txs
    pha pla php plp jsr rts rti bpl bmi bvc bvs bcc bcs bne beq jmpAbs jmpInd clc sec cli sei clv cld sed bitZp
    bitAbs nop brk ldaImm ldaZp ldaZpx ldaAbs ldaAbsx ldaAbsy ldaIndx ldaIndy ldxImm ldxZp ldxZpy ldxAbs ldxAbsy
    ldyImm ldyZp ldyZpx ldyAbs ldyAbsx staZp staZpx staAbs staAbsx staAbsy staIndx staIndy stxZp stxZpy stxAbs
    styZp styZpx styAbs

/-- Assembling a mode from its own operand bytes gives the mode back (R82, R89). -/
theorem modeOfBytes_operandBytes {m : Mode} {byte : Nat → Byte}
    (h : ∀ (k : Nat) (hk : k < m.operandBytes.length), byte (k + 1) = m.operandBytes[k]) :
    modeOfBytes m.kind (byte 1) (byte 2) = m := by
  cases m with
  | implied => rfl
  | accumulator => rfl
  | immediate b | zeroPage b | zeroPageX b | zeroPageY b | indexedIndirect b | indirectIndexed b | relative b =>
    have hb : byte 1 = b := h 0 Nat.zero_lt_one
    rw [hb]; rfl
  | absolute w | absoluteX w | absoluteY w | indirect w =>
    have hlow : byte 1 = lowByte w := h 0 Nat.zero_lt_two
    have hhigh : byte 2 = highByte w := h 1 Nat.one_lt_two
    simp only [Mode.kind, modeOfBytes, hlow, hhigh, concat_high_low]

/-- Bytes that begin with an instruction's encoding decode to that instruction (R90). -/
theorem decode_encode {i : Instr} {byte : Nat → Byte}
    (h : ∀ (k : Nat) (hk : k < (encode i).length), byte k = (encode i)[k]) : decode byte = .instr i := by
  obtain ⟨hcell, hpair⟩ := decoderRow i
  have hop : byte 0 = i.opcode := h 0 (Nat.zero_lt_succ _)
  have hmode : modeOfBytes i.mode.kind (byte 1) (byte 2) = i.mode :=
    modeOfBytes_operandBytes fun k hk => h (k + 1) (Nat.succ_lt_succ hk)
  simp only [decode, hop, hcell, hmode, hpair]

namespace Machine

/-- Byte k counted from PC stands at the linear address modulo 65,536 (R85). -/
theorem word_add_ofNat (pc : Word) (k : Nat) :
    pc + BitVec.ofNat 16 k = BitVec.ofNat 16 ((pc.toNat + k) % 65536) := by
  apply BitVec.eq_of_toNat_eq
  simp

/-- The decoder reads an instruction where memory holds its encoding, past 0xFFFF too (R84, R85, R90). -/
theorem Memory.decodeAt_encode {m : Memory} {pc : Word} {i : Instr}
    (h : ∀ (k : Nat) (hk : k < (encode i).length),
      m.read (BitVec.ofNat 16 ((pc.toNat + k) % 65536)) = (encode i)[k]) : m.decodeAt pc = .instr i :=
  decode_encode fun k hk => by rw [word_add_ofNat, h k hk]

end Machine
end Sys2Proof
end

section
/-! The three things a step can answer, an equation for each (00_scope.md R5, 60_exceptions.md R251, R254). -/

namespace Sys2Proof.Machine

theorem step_of_fault {s : State} {f : Fault} (hf : s.fault = some f) : step s = .fault f := by
  simp only [step, hf]

theorem step_of_instr {s : State} {i : Instr} (hf : s.fault = none) (hd : s.decodeHere = .instr i) :
    step s = exec i s := by
  simp only [step, hf, hd]

theorem step_of_illegalOpcode {s : State} {op : Byte} (hf : s.fault = none)
    (hd : s.decodeHere = .illegalOpcode op) : step s = .next (s.raise (.illegalOpcode s.pc op)) := by
  simp only [step, hf, hd]

/-- Settles O10: an equation of the step for each clause; the clause about encoded bytes needs that Decode undoes
Encode. -/
theorem stepEvaluatesTheDecodedInstruction : Obligations.StepEvaluatesTheDecodedInstruction :=
  ⟨fun _ _ hf hd => step_of_instr hf hd,
    fun _ _ hf hbytes => step_of_instr hf (Memory.decodeAt_encode hbytes),
    fun _ _ hf hd => step_of_illegalOpcode hf hd,
    fun _ _ hf => step_of_fault hf⟩

end Sys2Proof.Machine
end

section
/-! The state at launch and at reset (10_state.md R26). -/

namespace Sys2Proof.Machine

/-- Settles O16: memory at reset is empty and F is None, of which the invariant asks nothing. -/
theorem resetMeetsTheInvariant : Obligations.ResetMeetsTheInvariant := ⟨⟨Memory.wf_nil, trivial⟩, rfl⟩

/-- Settles O22: each cell is its parameter, by definition. -/
theorem launchSetsEveryCell : Obligations.LaunchSetsEveryCell :=
  ⟨fun _ => rfl,
    fun _ => ⟨rfl, rfl, rfl, rfl, rfl, rfl, rfl, rfl, rfl, rfl, rfl, rfl, rfl, fun _ => rfl⟩,
    rfl⟩

end Sys2Proof.Machine
end

section
/-! SetZN and the flags byte (10_state.md R20 to R22). -/

namespace Sys2Proof.Machine

/-- Bit 7 of a byte, as the numbers have it (R8). -/
theorem getLsbD_seven (v : Byte) : v.getLsbD 7 = true ↔ 128 ≤ v.toNat := by
  rw [show v.getLsbD 7 = v.msb from v.msb_eq_getLsbD_last.symm, BitVec.msb_eq_decide, decide_eq_true_eq]

theorem znOf_setZN (f : Flags) (v : Byte) : ZNOf v (f.setZN v) :=
  ⟨decide_eq_true_iff.trans (BitVec.toNat_inj (y := 0)).symm, getLsbD_seven v⟩

theorem Flags.toNat_packP (f : Flags) : f.packP.toNat = f.N.toNat * 128 + f.V.toNat * 64 + 32 + f.B.toNat * 16 +
    f.D.toNat * 8 + f.I.toNat * 4 + f.Z.toNat * 2 + f.C.toNat := by
  have hN := f.N.toNat_le
  have hV := f.V.toNat_le
  have hB := f.B.toNat_le
  have hD := f.D.toNat_le
  have hI := f.I.toNat_le
  have hZ := f.Z.toNat_le
  have hC := f.C.toNat_le
  rw [Flags.packP, BitVec.toNat_ofNat, Nat.mod_eq_of_lt (by omega)]

/-- The flags byte bit by bit (R21). -/
theorem Flags.getLsbD_packP (f : Flags) : f.packP.getLsbD 0 = f.C ∧ f.packP.getLsbD 1 = f.Z ∧ f.packP.getLsbD 2 = f.I ∧
    f.packP.getLsbD 3 = f.D ∧ f.packP.getLsbD 4 = f.B ∧ f.packP.getLsbD 5 = true ∧ f.packP.getLsbD 6 = f.V ∧
    f.packP.getLsbD 7 = f.N := by
  obtain ⟨C, Z, I, D, B, V, N⟩ := f
  revert C Z I D B V N
  decide

theorem Flags.unpackP_packP (f : Flags) : Flags.unpackP f.packP = f := by
  obtain ⟨hC, hZ, hI, hD, hB, -, hV, hN⟩ := f.getLsbD_packP
  simp only [Flags.unpackP, hC, hZ, hI, hD, hB, hV, hN]

/-- Bit by bit: the seven flags come back, and bit 5 is 1 on both sides. -/
theorem Flags.packP_unpackP (b : Byte) : (Flags.unpackP b).packP = b ||| 0x20 := by
  obtain ⟨hC, hZ, hI, hD, hB, h5, hV, hN⟩ := (Flags.unpackP b).getLsbD_packP
  apply BitVec.eq_of_getLsbD_eq
  intro k hk
  rw [BitVec.getLsbD_or]
  interval_cases k <;> simp only [hC, hZ, hI, hD, hB, h5, hV, hN] <;> simp [Flags.unpackP]

/-- Settles O28: packing by its bits, unpacking and SetZN by definition. -/
theorem flagsBytePacksAndUnpacks : Obligations.FlagsBytePacksAndUnpacks :=
  ⟨Flags.toNat_packP, fun _ => ⟨rfl, rfl, rfl, rfl, rfl, rfl, rfl⟩, Flags.unpackP_packP, Flags.packP_unpackP,
    fun f v => ⟨znOf_setZN f v, rfl⟩⟩

end Sys2Proof.Machine
end

section
/-! The canonical form names every memory once (10_state.md R23, log 6). -/

namespace Sys2Proof.Machine

theorem Memory.wfFrom_cons {lo k : Nat} {v : Byte} {rest : Memory} : Memory.wfFrom lo ((k, v) :: rest) = true ↔
    lo ≤ k ∧ k < Config.memSize ∧ v ≠ Memory.unlisted ∧ Memory.wfFrom (k + 1) rest = true := by
  simp only [Memory.wfFrom, Bool.and_eq_true, decide_eq_true_eq, and_assoc]

theorem Memory.lookup_head (k : Nat) (v : Byte) (rest : Memory) : Memory.lookup ((k, v) :: rest) k = v := if_pos rfl

/-- A canonical list holds nothing below its first address. -/
theorem Memory.le_of_lookup_ne {lo a : Nat} {m : Memory} (hm : Memory.wfFrom lo m = true)
    (ha : m.lookup a ≠ Memory.unlisted) : lo ≤ a := by
  induction m generalizing lo with
  | nil => exact absurd rfl ha
  | cons c rest ih =>
    obtain ⟨k, v⟩ := c
    obtain ⟨hlo, -, -, hrest⟩ := Memory.wfFrom_cons.mp hm
    by_cases hka : k = a
    · exact hka ▸ hlo
    · rw [Memory.lookup, if_neg hka] at ha
      have := ih hrest ha
      omega

theorem Memory.lookup_of_lt {lo a : Nat} {m : Memory} (hm : Memory.wfFrom lo m = true) (ha : a < lo) :
    m.lookup a = Memory.unlisted := by
  by_contra h
  exact ha.not_ge (Memory.le_of_lookup_ne hm h)

/-- What canonical lists hold at their first cells is read at no lower address, so two that read alike have the same
first cell, and their rests read alike. -/
theorem Memory.eq_of_lookup_eq {lo : Nat} {m m' : Memory} (hm : Memory.wfFrom lo m = true)
    (hm' : Memory.wfFrom lo m' = true) (h : ∀ a < Config.memSize, m.lookup a = m'.lookup a) : m = m' := by
  induction m generalizing lo m' with
  | nil =>
    cases m' with
    | nil => rfl
    | cons c' rest' =>
      obtain ⟨k', v'⟩ := c'
      obtain ⟨-, hk', hv', -⟩ := Memory.wfFrom_cons.mp hm'
      exact absurd ((h k' hk').trans (Memory.lookup_head ..)).symm hv'
  | cons c rest ih =>
    obtain ⟨k, v⟩ := c
    obtain ⟨hlo, hk, hv, hrest⟩ := Memory.wfFrom_cons.mp hm
    have hkv := (h k hk).symm.trans (Memory.lookup_head ..)
    cases m' with
    | nil => exact absurd hkv.symm hv
    | cons c' rest' =>
      obtain ⟨k', v'⟩ := c'
      obtain ⟨hlo', hk', hv', hrest'⟩ := Memory.wfFrom_cons.mp hm'
      have hkv' := (h k' hk').trans (Memory.lookup_head ..)
      have hle : k' ≤ k :=
        Memory.le_of_lookup_ne (Memory.wfFrom_cons.mpr ⟨le_rfl, hk', hv', hrest'⟩) (hkv.trans_ne hv)
      have hle' : k ≤ k' :=
        Memory.le_of_lookup_ne (Memory.wfFrom_cons.mpr ⟨le_rfl, hk, hv, hrest⟩) (hkv'.trans_ne hv')
      obtain rfl : k = k' := hle'.antisymm hle
      obtain rfl : v' = v := (Memory.lookup_head ..).symm.trans hkv
      congr 1
      refine ih hrest hrest' fun a ha => ?_
      by_cases hak : a = k
      · rw [Memory.lookup_of_lt hrest (by omega), Memory.lookup_of_lt hrest' (by omega)]
      · simpa only [Memory.lookup, if_neg (Ne.symm hak)] using h a ha

/-- Settles O17: every address below 65,536 is a word's, so the lists answer alike there. -/
theorem canonicalMemoriesThatReadAlikeAreEqual : Obligations.CanonicalMemoriesThatReadAlikeAreEqual :=
  fun m m' hm hm' h => Memory.eq_of_lookup_eq hm hm' fun a ha => by
    have hword : (BitVec.ofNat 16 a).toNat = a := BitVec.toNat_ofNat _ _ |>.trans (Nat.mod_eq_of_lt ha)
    simpa only [Memory.read, hword] using h (BitVec.ofNat 16 a)

end Sys2Proof.Machine
end

section
/-! The forms of an instruction, said once: every instruction whose mnemonic works on an operand is that mnemonic's
operation on the operand its mode resolves to (20_memory.md R64, R65; 30_encoding.md R87). -/

namespace Sys2Proof.Machine

/-- The operation a mnemonic evaluates on its resolved operand (files 40 to 44, 48, 49); none for the mnemonics that
resolve no operand. -/
def operationOf : Mnemonic → Option (Operand → State → Result)
  | .ADC => some adc
  | .SBC => some sbc
  | .AND => some logicalAnd
  | .ORA => some logicalOr
  | .EOR => some logicalEor
  | .ASL => some asl
  | .LSR => some lsr
  | .ROL => some rol
  | .ROR => some ror
  | .CMP => some fun o s => compareWith s.a o s
  | .CPX => some fun o s => compareWith s.x o s
  | .CPY => some fun o s => compareWith s.y o s
  | .INC => some increment
  | .DEC => some decrement
  | .BIT => some bitTest
  | .LDA => some lda
  | .LDX => some ldx
  | .LDY => some ldy
  | .STA => some fun o s => storeReg s.a o s
  | .STX => some fun o s => storeReg s.x o s
  | .STY => some fun o s => storeReg s.y o s
  | _ => none

/-- Each arm of exec for a form of such a mnemonic is its operation on its mode's operand (R64). -/
theorem exec_operation {i : Instr} {f : Operand → State → Result} (hf : operationOf i.mnemonic = some f) (s : State) :
    ∃ o, operandOf i.mode s = some o ∧ exec i s = f o s := by
  cases i <;> cases hf <;> exact ⟨_, rfl, rfl⟩

theorem operandOf_len {m : Mode} {s : State} {o : Operand} (h : operandOf m s = some o) : o.len = m.len := by
  cases m <;> cases h <;> rfl

theorem operandOf_place_accumulator {m : Mode} {s : State} {o : Operand} (h : operandOf m s = some o) :
    o.place = .accumulator ↔ m.kind = .accumulator := by
  cases m with
  | accumulator => cases h; exact iff_of_true rfl rfl
  | _ => cases h <;> exact iff_of_false nofun nofun

/-- No flag enters the resolution of an operand. -/
@[simp] theorem operandOf_setFlags (m : Mode) (s : State) (f : Flags) : operandOf m (s.setFlags f) = operandOf m s := by
  cases m <;> rfl

end Sys2Proof.Machine
end

section
/-! What an instruction may write and what it may read (10_state.md R11 to R18). One relation, Confined, compares the
evaluations of an instruction under all flags at once, so that the writers, the readers and the advance of PC are each
read off it. -/

namespace Sys2Proof.Machine

/-- The seven flags by name (R16). -/
inductive Flag where
  | C | Z | I | D | B | V | N

/-- The value of a flag. -/
def Flags.get (f : Flags) : Flag → Bool
  | .C => f.C
  | .Z => f.Z
  | .I => f.I
  | .D => f.D
  | .B => f.B
  | .V => f.V
  | .N => f.N

/-- The flags with one of them assigned. -/
def Flags.set (f : Flags) (k : Flag) (v : Bool) : Flags :=
  match k with
  | .C => { f with C := v }
  | .Z => { f with Z := v }
  | .I => { f with I := v }
  | .D => { f with D := v }
  | .B => { f with B := v }
  | .V => { f with V := v }
  | .N => { f with N := v }

/-- The mnemonics that may write a flag (R17, R18). -/
def Flag.writers : Flag → List Mnemonic
  | .C => [.ADC, .SBC, .ASL, .LSR, .ROL, .ROR, .CMP, .CPX, .CPY, .CLC, .SEC, .PLP, .RTI]
  | .Z | .N => [.ADC, .SBC, .AND, .ORA, .EOR, .ASL, .LSR, .ROL, .ROR, .CMP, .CPX, .CPY, .INC, .DEC, .INX, .INY, .DEX,
    .DEY, .TAX, .TXA, .TAY, .TYA, .TSX, .PLA, .LDA, .LDX, .LDY, .BIT, .PLP, .RTI]
  | .V => [.ADC, .SBC, .BIT, .CLV, .PLP, .RTI]
  | .I => [.CLI, .SEI, .PLP, .RTI]
  | .D => [.CLD, .SED, .PLP, .RTI]
  | .B => [.PLP, .RTI]

/-- The mnemonics that may read a flag (R17, R18). -/
def Flag.readers : Flag → List Mnemonic
  | .C => [.ADC, .ROL, .ROR, .BCC, .BCS, .PHP]
  | .Z => [.BNE, .BEQ, .PHP]
  | .V => [.BVC, .BVS, .PHP]
  | .N => [.BPL, .BMI, .PHP]
  | .I | .D | .B => [.PHP]

/-- The four byte registers by name (R12 to R15). -/
inductive Register where
  | A | X | Y | SP

/-- The mnemonics that may write a register whatever their mode (R12 to R15). -/
def Register.writers : Register → List Mnemonic
  | .A => [.ADC, .SBC, .AND, .LDA, .PLA, .TXA, .TYA]
  | .X => [.LDX, .TAX, .TSX, .INX, .DEX]
  | .Y => [.LDY, .TAY, .INY, .DEY]
  | .SP => [.PHA, .PHP, .PLA, .PLP, .JSR, .RTS, .RTI, .TXS]

/-- The control transfers: the mnemonics that assign PC otherwise than by `Advance` (R11). -/
def controlTransfers : List Mnemonic := [.JMP, .JSR, .RTS, .RTI, .BPL, .BMI, .BVC, .BVS, .BCC, .BCS, .BNE, .BEQ]

/-- The flags a mnemonic may write are those of t, the others those of f. -/
def Flags.confine (mn : Mnemonic) (f t : Flags) : Flags where
  C := if mn ∈ Flag.writers .C then t.C else f.C
  Z := if mn ∈ Flag.writers .Z then t.Z else f.Z
  I := if mn ∈ Flag.writers .I then t.I else f.I
  D := if mn ∈ Flag.writers .D then t.D else f.D
  B := if mn ∈ Flag.writers .B then t.B else f.B
  V := if mn ∈ Flag.writers .V then t.V else f.V
  N := if mn ∈ Flag.writers .N then t.N else f.N

/-- What a mnemonic may write is t's, the rest s's: A also where its place is the accumulator (acc), and PC advanced past
the len operand bytes unless it is a control transfer. -/
def State.confine (mn : Mnemonic) (acc : Bool) (len : Nat) (s t : State) : State where
  pc := if mn ∈ controlTransfers then t.pc else (s.advance len).pc
  sp := if mn ∈ Register.writers .SP then t.sp else s.sp
  a := if mn ∈ Register.writers .A ∨ acc then t.a else s.a
  x := if mn ∈ Register.writers .X then t.x else s.x
  y := if mn ∈ Register.writers .Y then t.y else s.y
  flags := s.flags.confine mn t.flags
  mem := t.mem
  fault := s.fault

/-- The flags g are f's where the mnemonic reads. -/
def AgreeOnRead (mn : Mnemonic) (f g : Flags) : Prop := ∀ k : Flag, mn ∈ k.readers → g.get k = f.get k

/-- An evaluation e at s, under all flags: it raises whatever they are and does nothing else, or it goes to one state t
whatever the flags are that its mnemonic does not read, but for the cells its mnemonic does not write. -/
inductive Confined (mn : Mnemonic) (acc : Bool) (len : Nat) (s : State) (e : State → Result) : Prop where
  | raises (f : Fault) (h : ∀ g, e (s.setFlags g) = .next ((s.setFlags g).raise f))
  | completes (t : State) (ht : e s = .next t)
      (h : ∀ g, AgreeOnRead mn s.flags g → e (s.setFlags g) = .next (State.confine mn acc len (s.setFlags g) t))

theorem Flags.eq_of_get {f g : Flags} (h : ∀ k, f.get k = g.get k) : f = g := by
  cases f
  cases g
  simp only [Flags.mk.injEq]
  exact ⟨h .C, h .Z, h .I, h .D, h .B, h .V, h .N⟩

theorem Flags.get_set_of_ne (f : Flags) {k k' : Flag} (v : Bool) (h : k' ≠ k) : (f.set k v).get k' = f.get k' := by
  cases k <;> cases k' <;> simp [Flags.set, Flags.get] at h ⊢

theorem Flags.set_get_self (f : Flags) (k : Flag) : f.set k (f.get k) = f := by
  cases k <;> rfl

theorem Flags.get_confine (mn : Mnemonic) (f t : Flags) (k : Flag) :
    (f.confine mn t).get k = if mn ∈ k.writers then t.get k else f.get k := by
  cases k <;> rfl

/-- Flags that differ in one flag go, confined, to flags that differ in that one at most. -/
theorem Flags.confine_set (mn : Mnemonic) (f t : Flags) (k : Flag) (v : Bool) :
    ∃ c, (f.set k v).confine mn t = (f.confine mn t).set k c := by
  cases k <;> exact ⟨_, rfl⟩

/-- An evaluation that reads one flag need be compared only under flags that keep it. -/
theorem Confined.completes_reading {mn : Mnemonic} {acc : Bool} {len : Nat} {s t : State} {e : State → Result} (k : Flag)
    (hk : mn ∈ k.readers) (ht : e s = .next t)
    (h : ∀ g : Flags, e (s.setFlags (g.set k (s.flags.get k))) =
      .next (State.confine mn acc len (s.setFlags (g.set k (s.flags.get k))) t)) : Confined mn acc len s e := by
  refine .completes t ht fun g hg => ?_
  have hkept : g.set k (s.flags.get k) = g := by rw [← hg k hk, Flags.set_get_self]
  exact hkept ▸ h g

/-- Every operation on a resolved operand keeps to its mnemonic's lists. Only a Store can raise, and only on an Immediate;
ADC, ROL and ROR alone read a flag, C. -/
theorem operation_confined {mn : Mnemonic} {f : Operand → State → Result} (hf : operationOf mn = some f) (o : Operand)
    (s : State) : Confined mn (decide (o.place = .accumulator)) o.len s (f o) := by
  obtain ⟨p, n⟩ := o
  cases mn <;> cases hf
  case SBC | AND | CMP | CPX | CPY | BIT | LDA | LDX | LDY =>
    cases p <;> exact .completes _ rfl fun _ _ => rfl
  case ORA | EOR | ASL | LSR | INC | DEC | STA | STX | STY =>
    cases p with
    | literal _ => exact .raises (.invalidOperation s.pc) fun _ => rfl
    | accumulator | memory _ => exact .completes _ rfl fun _ _ => rfl
  case ADC =>
    cases p <;> exact .completes_reading .C (by decide) rfl fun _ => rfl
  case ROL | ROR =>
    cases p with
    | literal _ => exact .raises (.invalidOperation s.pc) fun _ => rfl
    | accumulator | memory _ => exact .completes_reading .C (by decide) rfl fun _ => rfl

/-- Under other flags the operand is the same, so one operand serves the evaluations under all flags. -/
theorem exec_operation_setFlags {i : Instr} {f : Operand → State → Result} (hf : operationOf i.mnemonic = some f)
    {s : State} {o : Operand} (ho : operandOf i.mode s = some o) (g : Flags) :
    exec i (s.setFlags g) = f o (s.setFlags g) := by
  obtain ⟨o', ho', he⟩ := exec_operation hf (s.setFlags g)
  rw [operandOf_setFlags, ho] at ho'
  cases ho'
  exact he

theorem Confined.congr {mn : Mnemonic} {acc : Bool} {len : Nat} {s : State} {e e' : State → Result}
    (he : ∀ g, e' (s.setFlags g) = e (s.setFlags g)) (h : Confined mn acc len s e) : Confined mn acc len s e' := by
  cases h with
  | raises f h => exact .raises f fun g => (he g).trans (h g)
  | completes t ht h => exact .completes t ((he s.flags).trans ht) fun g hg => (he g).trans (h g hg)

/-- Every instruction keeps to its mnemonic's lists. Of those that work on no operand, the branches read their flag and PHP
reads all seven. -/
theorem exec_confined (i : Instr) (s : State) :
    Confined i.mnemonic (decide (i.mode.kind = .accumulator)) i.mode.len s (exec i) := by
  cases hf : operationOf i.mnemonic with
  | some f =>
    obtain ⟨o, ho, -⟩ := exec_operation hf s
    have hop := operation_confined hf o s
    simp only [operandOf_place_accumulator ho, operandOf_len ho] at hop
    exact hop.congr (exec_operation_setFlags hf ho)
  | none =>
    cases i with
    | inx | iny | dex | dey | tax | txa | tay | tya | tsx | txs | pha | pla | plp | jsr | rts | rti | jmpAbs | jmpInd | clc
    | sec | cli | sei | clv | cld | sed | nop | brk => exact .completes _ rfl fun _ _ => rfl
    | bcc | bcs => exact .completes_reading .C (by simp [Flag.readers, Instr.mnemonic]) rfl fun _ => rfl
    | bne | beq => exact .completes_reading .Z (by simp [Flag.readers, Instr.mnemonic]) rfl fun _ => rfl
    | bvc | bvs => exact .completes_reading .V (by simp [Flag.readers, Instr.mnemonic]) rfl fun _ => rfl
    | bpl | bmi => exact .completes_reading .N (by simp [Flag.readers, Instr.mnemonic]) rfl fun _ => rfl
    | php =>
      refine .completes _ rfl fun g hg => ?_
      obtain rfl : g = s.flags := Flags.eq_of_get fun k => hg k (by cases k <;> decide)
      rfl
    | _ => cases hf

/-- A next state is a fault entry, or the state before with no cell changed but those the instruction may write. -/
theorem exec_next_cases {i : Instr} {s t : State} (h : exec i s = .next t) :
    (∃ f, t = s.raise f) ∨
      ∃ u, t = State.confine i.mnemonic (decide (i.mode.kind = .accumulator)) i.mode.len s u := by
  cases exec_confined i s with
  | raises f hr => exact .inl ⟨f, Host.Outcome.next.inj (h.symm.trans (hr s.flags))⟩
  | completes u _ hc => exact .inr ⟨u, Host.Outcome.next.inj (h.symm.trans (hc s.flags fun _ _ => rfl))⟩

/-- A flag that changed is one the mnemonic writes (R17, R18). -/
theorem mem_writers_of_flag_ne {i : Instr} {s t : State} (h : exec i s = .next t) (k : Flag)
    (hk : t.flags.get k ≠ s.flags.get k) : i.mnemonic ∈ k.writers := by
  rcases exec_next_cases h with ⟨f, rfl⟩ | ⟨u, rfl⟩
  · exact absurd rfl hk
  · by_contra hw
    exact hk ((Flags.get_confine ..).trans (if_neg hw))

/-- A flag the mnemonic does not read reaches no other cell (R17, R18). -/
theorem exec_set_unread_flag (i : Instr) (s : State) (k : Flag) (v : Bool) (hk : i.mnemonic ∉ k.readers) :
    ∃ t c, exec i s = .next t ∧ exec i (s.setFlags (s.flags.set k v)) = .next (t.setFlags (t.flags.set k c)) := by
  cases exec_confined i s with
  | raises f hr => exact ⟨_, v, hr s.flags, hr (s.flags.set k v)⟩
  | completes u _ hc =>
    have hagree : AgreeOnRead i.mnemonic s.flags (s.flags.set k v) := fun k' hk' =>
      Flags.get_set_of_ne _ _ fun e => hk (e ▸ hk')
    obtain ⟨c, hset⟩ := Flags.confine_set i.mnemonic s.flags u.flags k v
    refine ⟨_, c, hc s.flags fun _ _ => rfl, (hc _ hagree).trans ?_⟩
    simp only [State.confine, State.setFlags, hset]
    rfl

end Sys2Proof.Machine
end

section
/-! The rules about all instructions that 10_state.md derives: writers and readers of the flags, writers of the registers,
and the advance of PC. -/

namespace Sys2Proof.Machine

/-- Settles O52: each flag's list of writers is that of the one rule about writers. -/
theorem flagsChangeOnlyByTheirWriters : Obligations.FlagsChangeOnlyByTheirWriters := fun _ _ _ h =>
  ⟨mem_writers_of_flag_ne h .C, fun hZN => hZN.elim (mem_writers_of_flag_ne h .Z) (mem_writers_of_flag_ne h .N),
    mem_writers_of_flag_ne h .V, mem_writers_of_flag_ne h .I, mem_writers_of_flag_ne h .D, mem_writers_of_flag_ne h .B⟩

/-- Settles O53: each flag's list of readers is that of the one rule about readers. -/
theorem flagsAreReadOnlyByTheirReaders : Obligations.FlagsAreReadOnlyByTheirReaders := fun i s v =>
  have unlessPhp {k : Flag} (hk : k.readers = [.PHP]) (h : i.mnemonic ≠ .PHP) :=
    exec_set_unread_flag i s k v (by simpa [hk] using h)
  ⟨exec_set_unread_flag i s .C v, exec_set_unread_flag i s .Z v, exec_set_unread_flag i s .V v, exec_set_unread_flag i s .N v,
    unlessPhp (k := .I) rfl, unlessPhp (k := .D) rfl, unlessPhp (k := .B) rfl⟩

/-- The Accumulator mode is that of the shifts and rotates alone (R51, R88). -/
theorem mnemonic_of_accumulator {i : Instr} (h : i.mode.kind = .accumulator) : i.mnemonic ∈ [.ASL, .LSR, .ROL, .ROR] := by
  cases i with
  | aslAcc | lsrAcc | rolAcc | rorAcc => decide
  | _ => cases h

/-- Settles O54: a fault entry changes no register, and any other evaluation those it may write. -/
theorem registersChangeOnlyByTheirWriters : Obligations.RegistersChangeOnlyByTheirWriters := by
  intro i s t h
  rcases exec_next_cases h with ⟨f, rfl⟩ | ⟨u, rfl⟩
  · exact ⟨absurd rfl, absurd rfl, absurd rfl, absurd rfl⟩
  · simp only [State.confine, ite_ne_right_iff, decide_eq_true_eq]
    exact ⟨fun hA => hA.1.imp_right fun hacc => ⟨hacc, mnemonic_of_accumulator hacc⟩, And.left, And.left, And.left⟩

/-- Settles O55: a fault entry is excluded by F = None after it, and any other evaluation advances unless it is a control
transfer. -/
theorem otherInstructionsAdvanceByTheirLength : Obligations.OtherInstructionsAdvanceByTheirLength := by
  intro i s t _ h hf hmn
  rcases exec_next_cases h with ⟨f, rfl⟩ | ⟨u, rfl⟩
  · cases hf
  · have hpc : i.mnemonic ∉ controlTransfers := hmn
    simp only [AdvancesBy, State.confine, if_neg hpc]
    exact State.advance_toNat s i.mode.len

end Sys2Proof.Machine
end

section
/-! The rules of the memory accessors (20_memory.md R42, R45): what a write changes, what Read16 reads. -/

namespace Sys2Proof.Machine

/-- The byte after a is at the next linear address (R43, R45). -/
theorem Memory.toNat_read16 (m : Memory) (a : Word) : (m.read16 a).toNat =
    (m.read a).toNat + 256 * (m.read (BitVec.ofNat 16 ((a.toNat + 1) % 65536))).toNat := by
  have hnext : a + 1 = BitVec.ofNat 16 ((a.toNat + 1) % 65536) := word_add_ofNat a 1
  rw [Memory.read16, toNat_concat, hnext]
  omega

/-- Read16 by the number of its address, the form in which a pointer's address is stated. -/
theorem Memory.toNat_read16_of_toNat (m : Memory) {a : Word} {n : Nat} (ha : a.toNat = n) : (m.read16 a).toNat =
    (m.read (BitVec.ofNat 16 n)).toNat + 256 * (m.read (BitVec.ofNat 16 ((n + 1) % 65536))).toNat := by
  rw [Memory.toNat_read16, ← ha, BitVec.ofNat_toNat, BitVec.setWidth_eq]

/-- One write is the whole change of memory (R42). -/
theorem MemoryOnlyAt.of_write {s t : State} {a : Word} {v : Byte} (h : t.mem = s.mem.write a v) :
    MemoryOnlyAt s t a v := by
  refine ⟨?_, fun b hb => ?_⟩
  · rw [h, Memory.read_write, if_pos rfl]
  · rw [h, Memory.read_write, if_neg hb]

/-- Settles O18: the number of a concatenation, with the high byte's address as a number. -/
theorem readSixteenIsLittleEndianAndLinear : Obligations.ReadSixteenIsLittleEndianAndLinear := Memory.toNat_read16

end Sys2Proof.Machine
end

section
/-! The stack (20_memory.md R47 to R49): one Push and one Pull, then any number of pushes. -/

namespace Sys2Proof.Machine

theorem toNat_stackAddr (sp : Byte) : (stackAddr sp).toNat = 0x0100 + sp.toNat := toNat_concat _ sp

theorem State.push_sp_toNat (s : State) (v : Byte) : (s.push v).sp.toNat = (s.sp.toNat + 255) % 256 := by
  rw [State.push_sp, BitVec.toNat_sub, Nat.add_comm]
  rfl

theorem State.pulled_sp_toNat (s : State) : s.pulled.sp.toNat = (s.sp.toNat + 1) % 256 := BitVec.toNat_add ..

theorem State.push_memoryOnlyAt (s : State) (v : Byte) : MemoryOnlyAt s (s.push v) (stackAddr s.sp) v :=
  .of_write (s.push_mem v)

/-- Decrement and increment cancel, for SP = 0x00 too, so Pull looks where Push stored (R48). -/
theorem State.pullByte_push (s : State) (v : Byte) : (s.push v).pullByte = v := by
  rw [State.pullByte, State.push_sp, BitVec.sub_add_cancel]
  exact (s.push_memoryOnlyAt v).1

theorem State.pullByte_eq (s : State) :
    s.pullByte = s.mem.read (BitVec.ofNat 16 (0x0100 + (s.sp.toNat + 1) % 256)) := by
  have hslot : stackAddr (s.sp + 1) = BitVec.ofNat 16 (0x0100 + (s.sp.toNat + 1) % 256) := by
    rw [← s.pulled_sp_toNat, ← toNat_stackAddr, BitVec.ofNat_toNat, BitVec.setWidth_eq, State.pulled_sp]
  rw [State.pullByte, hslot]

/-- Settles O19: the rules of one Push and one Pull. -/
theorem pushAndPullAreInverse : Obligations.PushAndPullAreInverse := fun s v =>
  ⟨toNat_stackAddr s.sp, s.push_memoryOnlyAt v, s.push_sp_toNat v, rfl, s.pulled_sp_toNat, rfl, s.pullByte_eq,
    s.pullByte_push v, BitVec.sub_add_cancel ..⟩

theorem pushes_sp_toNat (vs : List Byte) (s : State) :
    (vs.foldl State.push s).sp.toNat = (s.sp.toNat + 255 * vs.length) % 256 := by
  induction vs generalizing s with
  | nil => exact (Nat.mod_eq_of_lt s.sp.isLt).symm
  | cons v vs ih =>
    rw [List.foldl_cons, ih, State.push_sp_toNat, List.length_cons]
    omega

/-- Each push stores at some `0x0100 + SP` (R49). -/
theorem pushes_read_of_outside (vs : List Byte) (s : State) {a : Word} (ha : a.toNat < 0x0100 ∨ 0x01FF < a.toNat) :
    (vs.foldl State.push s).mem.read a = s.mem.read a := by
  induction vs generalizing s with
  | nil => rfl
  | cons v vs ih =>
    have hne : a ≠ stackAddr s.sp := by
      rintro rfl
      have := s.sp.isLt
      rw [toNat_stackAddr] at ha
      omega
    rw [List.foldl_cons, ih, (s.push_memoryOnlyAt v).2 a hne]

theorem pushes_frame (vs : List Byte) (s : State) : vs.foldl State.push s =
    { s with mem := (vs.foldl State.push s).mem, sp := (vs.foldl State.push s).sp } := by
  induction vs generalizing s with
  | nil => rfl
  | cons v vs ih => exact ih (s.push v)

/-- SP has 256 values, so as many pushes bring it round (R49). -/
theorem pushes_sp_of_length {vs : List Byte} (h : vs.length = 256) (s : State) : (vs.foldl State.push s).sp = s.sp := by
  apply BitVec.eq_of_toNat_eq
  have := s.sp.isLt
  rw [pushes_sp_toNat, h]
  omega

/-- Settles O20: by induction over the bytes pushed; the push after 256 finds SP where the first did. -/
theorem pushesStayInTheStackPage : Obligations.PushesStayInTheStackPage := fun vs s =>
  ⟨pushes_sp_toNat vs s, fun _ => pushes_read_of_outside vs s, pushes_frame vs s, fun h v =>
    pushes_sp_of_length h s ▸ (State.push_memoryOnlyAt _ v).1⟩

end Sys2Proof.Machine
end

section
/-! The addressing modes (20_memory.md R50 to R64): the number of each effective address, and what Load and Store do at
a place in memory. -/

namespace Sys2Proof.Machine

@[simp] theorem Operand.store_memory (ea : Word) (n : Nat) (v : Byte) (s : State) :
    (Operand.mk (.memory ea) n).store v s = .ok (s.write ea v) := rfl

/-- Store through a memory mode writes the byte at its effective address and nothing else (R64). -/
theorem Operand.store_memory_only (ea : Word) (n : Nat) (v : Byte) (s : State) :
    ∃ t, (Operand.mk (.memory ea) n).store v s = .ok t ∧ MemoryOnlyAt s t ea v ∧ t = { s with mem := t.mem } :=
  ⟨s.write ea v, Operand.store_memory .., .of_write (s.write_mem ea v), rfl⟩

theorem toNat_eaZeroPage (b : Byte) : (eaZeroPage b).toNat = b.toNat := by
  rw [eaZeroPage, BitVec.toNat_setWidth_of_le (by decide)]

theorem toNat_eaZeroPageX (b : Byte) (s : State) : (eaZeroPageX b s).toNat = (b.toNat + s.x.toNat) % 256 :=
  (toNat_eaZeroPage _).trans (BitVec.toNat_add ..)

theorem toNat_eaZeroPageY (b : Byte) (s : State) : (eaZeroPageY b s).toNat = (b.toNat + s.y.toNat) % 256 :=
  (toNat_eaZeroPage _).trans (BitVec.toNat_add ..)

/-- No sum with a zero-page base leaves the zero page (R53 to R55). -/
theorem eaZeroPage_le (b : Byte) : (eaZeroPage b).toNat ≤ 0x00FF := by
  rw [toNat_eaZeroPage]
  exact Nat.le_of_lt_succ b.isLt

/-- An index register is added to an address as a number, modulo 65,536 (R57, R58, R61). -/
theorem toNat_add_index (w : Word) (r : Byte) : (w + r.setWidth 16).toNat = (w.toNat + r.toNat) % 65536 := by
  rw [BitVec.toNat_add, BitVec.toNat_setWidth_of_le (by decide)]

/-- The ZeroPageY mode is that of LDX and STX alone (R55, R88). -/
theorem mnemonic_of_zeroPageY {i : Instr} (h : i.mode.kind = .zeroPageY) : i.mnemonic = .LDX ∨ i.mnemonic = .STX := by
  cases i with
  | ldxZpy => exact .inl rfl
  | stxZpy => exact .inr rfl
  | _ => cases h

/-- The Indirect mode is that of JMP alone (R59, R88). -/
theorem mnemonic_of_indirect {i : Instr} (h : i.mode.kind = .indirect) : i.mnemonic = .JMP := by
  cases i with
  | jmpInd => rfl
  | _ => cases h

/-- Settles O24: the three addresses are zero-page ones, and Load and Store act there. -/
theorem zeroPageModesStayInTheZeroPage : Obligations.ZeroPageModesStayInTheZeroPage := by
  refine ⟨fun s b => ⟨eaZeroPage b, eaZeroPageX b s, eaZeroPageY b s, rfl, toNat_eaZeroPage b, rfl,
    toNat_eaZeroPageX b s, rfl, toNat_eaZeroPageY b s, ?_⟩, ?_, fun _ => mnemonic_of_zeroPageY⟩
  · have hpage : ∀ a ∈ [eaZeroPage b, eaZeroPageX b s, eaZeroPageY b s], a.toNat ≤ 0x00FF := by
      simp only [List.forall_mem_cons]
      exact ⟨eaZeroPage_le b, eaZeroPage_le (b + s.x), eaZeroPage_le (b + s.y), List.forall_mem_nil _⟩
    exact fun a ha => ⟨hpage a ha, Operand.load_memory a 1 s, fun v => Operand.store_memory_only a 1 v s⟩
  · intro s hx
    have hea : eaZeroPageX 0xFF s = 0x0001 := by rw [eaZeroPageX, hx]; rfl
    rw [operandOf, Operand.zeroPageX, hea]

/-- Settles O25: the sums as numbers; Load and Store act at any address. -/
theorem absoluteModesAddModuloSixtyFourK : Obligations.AbsoluteModesAddModuloSixtyFourK := fun s w =>
  ⟨eaAbsoluteX w s, eaAbsoluteY w s, rfl, rfl, rfl, toNat_add_index w s.x, rfl, toNat_add_index w s.y,
    fun a _ => ⟨Operand.load_memory a 2 s, fun v => Operand.store_memory_only a 2 v s⟩⟩

/-- Settles O26: each address is a pointer read by Read16 from an address known as a number, with Y added afterwards in
the last mode. -/
theorem indirectModesFollowLinearPointers : Obligations.IndirectModesFollowLinearPointers := by
  refine ⟨fun s b w => ⟨s.mem.read16 w, eaIndexedIndirect b s, eaIndirectIndexed b s, rfl,
    s.mem.toNat_read16_of_toNat rfl, rfl, rfl, s.mem.toNat_read16_of_toNat (toNat_eaZeroPageX b s), rfl, ?_,
    fun a _ => ⟨Operand.load_memory a 1 s, fun v => Operand.store_memory_only a 1 v s⟩⟩, fun _ => mnemonic_of_indirect⟩
  rw [eaIndirectIndexed, toNat_add_index, s.mem.toNat_read16_of_toNat (toNat_eaZeroPage b)]

/-- Settles O27: each mode's row of the table of R64, then each place's Load and Store. -/
theorem modesSupportTheirOperations : Obligations.ModesSupportTheirOperations := by
  refine ⟨fun m s => ?_, fun s n b v ea => ⟨rfl, rfl, rfl, rfl, rfl, Operand.store_memory_only ea n v s⟩,
    fun _ => mnemonic_of_accumulator⟩
  cases m with
  | accumulator | implied | relative => exact ⟨rfl, rfl⟩
  | immediate | absolute | indirect => exact ⟨_, rfl, rfl, rfl⟩
  | zeroPage | zeroPageX | zeroPageY | indexedIndirect | indirectIndexed | absoluteX | absoluteY =>
    exact ⟨⟨_, rfl⟩, rfl⟩

end Sys2Proof.Machine
end

section
/-! Fetch and store meet in one memory (20_memory.md R69). -/

namespace Sys2Proof.Machine

/-- The decoder reads a written memory as the old bytes but for the one written. -/
theorem Memory.decodeAt_write (m : Memory) (w : Word) (v : Byte) (pc : Word) : (m.write w v).decodeAt pc = decode fun k =>
    let a := BitVec.ofNat 16 ((pc.toNat + k) % 65536)
    if a = w then v else m.read a := by
  simp only [Memory.decodeAt, Memory.read_write, word_add_ofNat]

/-- Settles O23: the step is the write of A at w and the advance of PC. -/
theorem nextFetchSeesTheStore : Obligations.NextFetchSeesTheStore := by
  intro s t w hf hd h pc
  have hstep : step s = .next ((s.write w s.a).advance 2) := (step_of_instr hf hd).trans (storeReg_memory s.a w 2 s)
  obtain rfl : t = (s.write w s.a).advance 2 := Host.Outcome.next.inj (h.symm.trans hstep)
  exact s.mem.decodeAt_write w s.a pc

end Sys2Proof.Machine
end

section
/-! What an instruction does to memory, said once (20_memory.md R42, R47, R64, R65): nothing, one write at its effective
address, or pushes. -/

namespace Sys2Proof.Machine

/-- The mnemonics whose operation stores through its mode (R64). -/
def storingMnemonics : List Mnemonic := [.ORA, .EOR, .ASL, .LSR, .ROL, .ROR, .INC, .DEC, .STA, .STX, .STY]

/-- The mnemonics that push (R47). -/
def pushingMnemonics : List Mnemonic := [.PHA, .PHP, .JSR]

/-- The operations that only load leave memory alone; the others store one byte if their place is in memory. -/
theorem operation_mem {mn : Mnemonic} {f : Operand → State → Result} (hf : operationOf mn = some f) {o : Operand}
    {s t : State} (h : f o s = .next t) : t.mem = s.mem ∨
      mn ∈ storingMnemonics ∧ ∃ ea v, o.place = .memory ea ∧ t.mem = s.mem.write ea v := by
  obtain ⟨p, n⟩ := o
  cases mn <;> cases hf
  case ADC | SBC | AND | CMP | CPX | CPY | BIT | LDA | LDX | LDY =>
    cases h
    exact .inl rfl
  case ORA | EOR | ASL | LSR | ROL | ROR | INC | DEC | STA | STX | STY =>
    cases p with
    | accumulator | literal _ =>
      cases h
      exact .inl rfl
    | memory ea =>
      cases h
      exact .inr ⟨by decide, ea, _, rfl, rfl⟩

/-- What any instruction does to memory. -/
theorem exec_mem {i : Instr} {s t : State} (h : exec i s = .next t) : t.mem = s.mem ∨
    (i.mnemonic ∈ storingMnemonics ∧
      ∃ ea v, operandOf i.mode s = some ⟨.memory ea, i.mode.len⟩ ∧ t.mem = s.mem.write ea v) ∨
    (i.mnemonic ∈ pushingMnemonics ∧ ∃ vs : List Byte, t.mem = (vs.foldl State.push s).mem) := by
  cases hf : operationOf i.mnemonic with
  | some f =>
    obtain ⟨⟨p, n⟩, ho, he⟩ := exec_operation hf s
    obtain hsame | ⟨hmn, ea, v, rfl, hmem⟩ := operation_mem hf (he.symm.trans h)
    · exact .inl hsame
    · obtain rfl : n = i.mode.len := operandOf_len ho
      exact .inr (.inl ⟨hmn, ea, v, ho, hmem⟩)
  | none =>
    cases i with
    | pha =>
      cases h
      exact .inr (.inr ⟨by decide, [s.a], rfl⟩)
    | php =>
      cases h
      exact .inr (.inr ⟨by decide, [s.flags.packP], rfl⟩)
    | jsr =>
      cases h
      exact .inr (.inr ⟨(by decide : .JSR ∈ pushingMnemonics), [highByte (s.pc + 2), lowByte (s.pc + 2)], rfl⟩)
    | inx | iny | dex | dey | tax | txa | tay | tya | tsx | txs | pla | plp | rts | rti | jmpAbs | jmpInd | clc | sec | cli
    | sei | clv | cld | sed | nop | brk | bpl | bmi | bvc | bvs | bcc | bcs | bne | beq =>
      cases h
      exact .inl rfl
    | _ => cases hf

/-- Settles O56: a byte that changed is the one written at the effective address, or one that pushes can reach. -/
theorem memoryChangesOnlyByStoresAndPushes : Obligations.MemoryChangesOnlyByStoresAndPushes := by
  intro i s t a h hne
  obtain hsame | ⟨hmn, ea, v, ho, hmem⟩ | ⟨hmn, vs, hmem⟩ := exec_mem h
  · exact absurd (congrArg (Memory.read · a) hsame) hne
  · obtain rfl : a = ea := by
      by_contra hea
      exact hne ((MemoryOnlyAt.of_write hmem).2 a hea)
    exact .inl ⟨hmn, ho⟩
  · refine .inr ⟨hmn, ?_⟩
    by_contra hout
    exact hne ((congrArg (Memory.read · a) hmem).trans (pushes_read_of_outside vs s (by omega)))

end Sys2Proof.Machine
end

section
/-! The legal pairs (30_encoding.md R87, R88, R93): instrOfPair and the pair of an instruction undo each other,
the legality table says where instrOfPair answers, and no two bytes of the matrix have one cell. -/

namespace Sys2Proof

theorem instrOfPair_self (i : Instr) : instrOfPair i.mnemonic i.mode = some i := (decoderRow i).2

theorem opcodeCell_opcode (i : Instr) : opcodeCell i.opcode = some (i.mnemonic, i.mode.kind) := (decoderRow i).1

/-- The instruction of a pair has that pair (R87). -/
theorem pair_of_instrOfPair {mn : Mnemonic} {m : Mode} {i : Instr} (h : instrOfPair mn m = some i) :
    i.mnemonic = mn ∧ i.mode = m := by
  cases mn <;> cases m <;> cases h
  all_goals exact ⟨rfl, rfl⟩

/-- A pair has an instruction exactly where the legality table holds it (R88). -/
theorem isSome_instrOfPair (mn : Mnemonic) (m : Mode) : (instrOfPair mn m).isSome = legalPair mn m := by
  cases mn <;> cases m <;> rfl

theorem kind_of_eq_modeOfBytes {m : Mode} {k : ModeKind} {b1 b2 : Byte} (h : m = modeOfBytes k b1 b2) : m.kind = k :=
  h ▸ kind_modeOfBytes k b1 b2

theorem legalPair_iff_mem {mn : Mnemonic} {m : Mode} : legalPair mn m = true ↔ m.kind ∈ legalKinds mn :=
  List.contains_iff_mem

theorem exists_instr_of_legalPair {mn : Mnemonic} {m : Mode} (h : legalPair mn m = true) :
    ∃ i : Instr, i.mnemonic = mn ∧ i.mode = m :=
  have ⟨i, hi⟩ := Option.isSome_iff_exists.mp ((isSome_instrOfPair mn m).trans h)
  ⟨i, pair_of_instrOfPair hi⟩

theorem Instr.wellFormed_eq_true (i : Instr) : i.wellFormed = true :=
  (isSome_instrOfPair ..).symm.trans (congrArg Option.isSome (instrOfPair_self i))

theorem Instr.kind_mem_legalKinds (i : Instr) : i.mode.kind ∈ legalKinds i.mnemonic :=
  legalPair_iff_mem.mp i.wellFormed_eq_true

/-- Equal pairs have one instruction (R87). -/
theorem Instr.ext_pair {i j : Instr} (hmn : i.mnemonic = j.mnemonic) (hm : i.mode = j.mode) : i = j :=
  Option.some.inj (by rw [← instrOfPair_self i, ← instrOfPair_self j, hmn, hm])

/-- The matrix against the encoder's rows, byte by byte: each cell names a pair that has an instruction, and that
instruction's opcode is the byte (R93, R94). -/
theorem exists_instr_of_opcodeCell : ∀ op : Byte, ∀ c ∈ opcodeCell op,
    ∃ i ∈ instrOfPair c.1 (modeOfBytes c.2 0 0), i.opcode = op := by
  decide

theorem opcodeCell_injective {op op' : Byte} {c : Mnemonic × ModeKind} (h : opcodeCell op = some c)
    (h' : opcodeCell op' = some c) : op = op' := by
  obtain ⟨i, hi, rfl⟩ := exists_instr_of_opcodeCell op c h
  obtain ⟨i', hi', rfl⟩ := exists_instr_of_opcodeCell op' c h'
  rw [Option.mem_unique hi hi']

theorem mem_legalKinds_of_opcodeCell {op : Byte} {mn : Mnemonic} {k : ModeKind} (h : opcodeCell op = some (mn, k)) :
    k ∈ legalKinds mn := by
  obtain ⟨i, hi, -⟩ := exists_instr_of_opcodeCell op (mn, k) h
  obtain ⟨rfl, hm⟩ := pair_of_instrOfPair hi
  obtain rfl : i.mode.kind = k := kind_of_eq_modeOfBytes hm
  exact i.kind_mem_legalKinds

/-- A legal pair with any operand is an instruction's, and that instruction has an opcode (R88, R93). -/
theorem exists_instr_of_mem_legalKinds {mn : Mnemonic} {k : ModeKind} (h : k ∈ legalKinds mn) (b1 b2 : Byte) :
    ∃ i : Instr, i.mnemonic = mn ∧ i.mode = modeOfBytes k b1 b2 :=
  exists_instr_of_legalPair (legalPair_iff_mem.mpr ((kind_modeOfBytes k b1 b2).symm ▸ h))

theorem exists_opcodeCell_iff (mn : Mnemonic) (k : ModeKind) :
    (∃ op, opcodeCell op = some (mn, k)) ↔ k ∈ legalKinds mn := by
  constructor
  · rintro ⟨op, h⟩
    exact mem_legalKinds_of_opcodeCell h
  · intro h
    obtain ⟨i, rfl, hm⟩ := exists_instr_of_mem_legalKinds h 0 0
    exact ⟨i.opcode, kind_of_eq_modeOfBytes hm ▸ opcodeCell_opcode i⟩

/-- Settles O4: from the legality table to an instruction and from there to its opcode, and back through the matrix; the
151 cells are counted. -/
theorem legalPairsAreTheRowsOfTheTable : Obligations.LegalPairsAreTheRowsOfTheTable :=
  ⟨exists_opcodeCell_iff, fun _ _ _ => opcodeCell_injective, by rfl, Instr.wellFormed_eq_true,
    fun _ _ => exists_instr_of_legalPair⟩

/-- Settles O5: equal pairs are taken to one instruction, and every instruction is well formed. -/
theorem instructionsAreEqualWhenTheirPairsAre : Obligations.InstructionsAreEqualWhenTheirPairsAre :=
  ⟨fun _ _ => ⟨fun h => h ▸ ⟨rfl, rfl⟩, fun h => Instr.ext_pair h.1 h.2⟩, Instr.kind_mem_legalKinds⟩

end Sys2Proof
end

section
/-! What the decoder answers for a legal and for an illegal opcode byte (30_encoding.md R84 to R86, R96). -/

namespace Sys2Proof

theorem decode_of_opcodeCell_none {byte : Nat → Byte} {op : Byte} (hop : byte 0 = op) (h : opcodeCell op = none) :
    decode byte = .illegalOpcode op := by
  simp only [decode, hop, h]

/-- The instruction of a cell: its mnemonic, and its mode with the operand the next bytes make (R82, R84). -/
theorem decode_of_opcodeCell_some {byte : Nat → Byte} {op : Byte} {mn : Mnemonic} {k : ModeKind} (hop : byte 0 = op)
    (h : opcodeCell op = some (mn, k)) :
    ∃ i, decode byte = .instr i ∧ i.mnemonic = mn ∧ i.mode = modeOfBytes k (byte 1) (byte 2) := by
  obtain ⟨i, rfl, hm⟩ := exists_instr_of_mem_legalKinds (mem_legalKinds_of_opcodeCell h) (byte 1) (byte 2)
  exact ⟨i, by simp only [decode, hop, h, ← hm, instrOfPair_self], rfl, hm⟩

/-- What an instruction the decoder answers tells of the bytes: its opcode is the first, its operand is made of the next
two. -/
theorem eq_of_decode_instr {byte : Nat → Byte} {i : Instr} (h : decode byte = .instr i) :
    i.opcode = byte 0 ∧ i.mode = modeOfBytes i.mode.kind (byte 1) (byte 2) := by
  obtain ⟨mn, k, hcell, hpair⟩ := decode_instr h
  obtain ⟨rfl, hm⟩ := pair_of_instrOfPair hpair
  obtain rfl : i.mode.kind = k := kind_of_eq_modeOfBytes hm
  exact ⟨opcodeCell_injective (opcodeCell_opcode i) hcell, hm⟩

namespace Machine

theorem Memory.decodeAt_eq (m : Memory) (pc : Word) :
    m.decodeAt pc = decode fun k => m.read (BitVec.ofNat 16 ((pc.toNat + k) % 65536)) := by
  simp only [Memory.decodeAt, word_add_ofNat]

/-- The opcode byte is read at PC itself (R84). -/
theorem Memory.read_opcode_address (m : Memory) (pc : Word) :
    m.read (BitVec.ofNat 16 ((pc.toNat + 0) % 65536)) = m.read pc := by
  rw [← word_add_ofNat, BitVec.add_zero]

theorem Memory.decodeAt_of_opcodeCell_none {m : Memory} {pc : Word} (h : opcodeCell (m.read pc) = none) :
    m.decodeAt pc = .illegalOpcode (m.read pc) :=
  (m.decodeAt_eq pc).trans (decode_of_opcodeCell_none (m.read_opcode_address pc) h)

/-- The operand bytes of a legal opcode stand at the next two linear addresses modulo 65,536 (R85). -/
theorem Memory.decodeAt_of_opcodeCell_some {m : Memory} {pc : Word} {mn : Mnemonic} {k : ModeKind}
    (h : opcodeCell (m.read pc) = some (mn, k)) :
    ∃ i, m.decodeAt pc = .instr i ∧ i.mnemonic = mn ∧ i.mode = modeOfBytes k
      (m.read (BitVec.ofNat 16 ((pc.toNat + 1) % 65536))) (m.read (BitVec.ofNat 16 ((pc.toNat + 2) % 65536))) := by
  rw [m.decodeAt_eq]
  exact decode_of_opcodeCell_some (m.read_opcode_address pc) h

/-- Settles O6: the two answers of the decoder, over the bytes of memory from pc on. -/
theorem decodeReadsOpcodeThenOperandBytes : Obligations.DecodeReadsOpcodeThenOperandBytes := by
  refine ⟨fun hi lo => by rw [toNat_concat]; omega, fun m pc => ?_⟩
  split
  case h_1 hcell => exact Memory.decodeAt_of_opcodeCell_none hcell
  case h_2 mn k hcell =>
    obtain ⟨i, hd, hmn, hm⟩ := Memory.decodeAt_of_opcodeCell_some hcell
    exact ⟨i, hd, hmn, kind_of_eq_modeOfBytes hm, hm⟩

/-- The bytes without a cell in the matrix, ascending (R96). -/
def illegalBytes : List Byte := ((List.range 256).map (BitVec.ofNat 8)).filter fun op => opcodeCell op = none

theorem mem_illegalBytes {op : Byte} : op ∈ illegalBytes ↔ opcodeCell op = none := by
  have hall : op ∈ (List.range 256).map (BitVec.ofNat 8) :=
    List.mem_map.mpr ⟨op.toNat, List.mem_range.mpr op.isLt, by rw [BitVec.ofNat_toNat, BitVec.setWidth_eq]⟩
  simp only [illegalBytes, List.mem_filter, hall, true_and, decide_eq_true_eq]

/-- Settles O7: the list written out is that of the bytes without a cell, and the step at such a byte is a raise. -/
theorem illegalBytesRaiseIllegalOpcode : Obligations.IllegalBytesRaiseIllegalOpcode := by
  unfold Obligations.IllegalBytesRaiseIllegalOpcode
  intro illegal
  have hlist : illegal = illegalBytes := by decide +zetaReduce
  have hcell (op : Byte) : opcodeCell op = none ↔ op ∈ illegal := by
    rw [hlist, mem_illegalBytes]
  refine ⟨rfl, hcell, fun s hf hop => ?_⟩
  have hd := Memory.decodeAt_of_opcodeCell_none ((hcell _).mpr hop)
  exact ⟨hd, step_of_illegalOpcode hf hd⟩

end Machine
end Sys2Proof
end

section
/-! The round trip of encoder and decoder (30_encoding.md R89, R90). -/

namespace Sys2Proof

theorem lowByte_eq_ofNat (w : Word) : lowByte w = BitVec.ofNat 8 (w.toNat % 256) :=
  BitVec.eq_of_toNat_eq (by rw [toNat_lowByte, BitVec.toNat_ofNat]; omega)

theorem highByte_eq_ofNat (w : Word) : highByte w = BitVec.ofNat 8 (w.toNat / 256) := by
  have := w.isLt
  exact BitVec.eq_of_toNat_eq (by rw [toNat_highByte, BitVec.toNat_ofNat]; omega)

theorem Mode.length_operandBytes (m : Mode) : m.operandBytes.length = m.len := by
  cases m <;> rfl

theorem length_encode (i : Instr) : (encode i).length = 1 + i.mode.len := by
  rw [encode, List.length_cons, Mode.length_operandBytes, Nat.add_comm]

/-- The operand bytes of an assembled mode are the bytes it was assembled from (R82, R89). -/
theorem operandBytes_modeOfBytes (k : ModeKind) (byte : Nat → Byte) :
    (modeOfBytes k (byte 1) (byte 2)).operandBytes = (List.range k.len).map fun n => byte (n + 1) := by
  cases k with
  | absolute | absoluteX | absoluteY | indirect =>
    simp only [modeOfBytes, Mode.operandBytes, lowByte_concat, highByte_concat]
    rfl
  | _ => rfl

/-- Encode gives back the bytes that were decoded, as many as the instruction has (R90). -/
theorem encode_of_decode {byte : Nat → Byte} {i : Instr} (h : decode byte = .instr i) :
    encode i = (List.range (1 + i.mode.len)).map byte := by
  obtain ⟨hop, hm⟩ := eq_of_decode_instr h
  have hoperand : i.mode.operandBytes = (List.range i.mode.len).map fun n => byte (n + 1) :=
    (congrArg Mode.operandBytes hm).trans (operandBytes_modeOfBytes ..)
  rw [encode, hop, hoperand, Nat.add_comm, List.range_succ_eq_map, List.map_cons, List.map_map]
  rfl

/-- Equal encodings decode alike (R90). -/
theorem encode_injective {i j : Instr} (h : encode i = encode j) : i = j := by
  have hdecode (l : Instr) : decode (fun k => (encode l).getD k 0) = .instr l :=
    decode_encode fun k hk => List.getD_eq_getElem _ _ hk
  exact Decoded.instr.inj ((hdecode i).symm.trans (h ▸ hdecode j))

/-- Settles O3: the byte is the instruction's opcode, and a word's bytes are known as numbers. -/
theorem encodingIsOpcodeThenOperandBytes : Obligations.EncodingIsOpcodeThenOperandBytes := by
  refine fun i => ⟨i.opcode, opcodeCell_opcode i, ?_⟩
  rw [encode]
  cases i.mode <;> simp only [Mode.operandBytes, lowByte_eq_ofNat, highByte_eq_ofNat]

namespace Machine

/-- Settles O1: Decode undoes Encode at any address, and each mode has its length in operand bytes. -/
theorem decodeOfEncodeGivesTheInstruction : Obligations.DecodeOfEncodeGivesTheInstruction :=
  ⟨fun _ _ _ => Memory.decodeAt_encode, length_encode⟩

/-- Settles O2: Encode undoes Decode, byte for byte; that no two instructions encode alike is the other half of the
round trip. -/
theorem encodeOfDecodeGivesTheBytes : Obligations.EncodeOfDecodeGivesTheBytes := by
  refine ⟨fun i m pc hd k hk => ?_, fun _ _ => encode_injective⟩
  have hbytes := encode_of_decode ((m.decodeAt_eq pc).symm.trans hd)
  rw [List.getElem_of_eq hbytes hk, List.getElem_map, List.getElem_range]

end Machine
end Sys2Proof
end

section
/-! ADC and SBC (40_arithmetic.md R110, R111): their values as numbers, and the two readings of signed overflow. -/

namespace Sys2Proof.Machine

/-- The overflow formula as the numbers have it: z has the sign neither of x nor of y (R110). -/
theorem getLsbD_seven_xor_and_xor (x y z : Byte) : ((x ^^^ z) &&& (y ^^^ z)).getLsbD 7 = true ↔
    ¬(128 ≤ x.toNat ↔ 128 ≤ z.toNat) ∧ ¬(128 ≤ y.toNat ↔ 128 ≤ z.toNat) := by
  simp only [← getLsbD_seven, Bool.coe_iff_coe, BitVec.getLsbD_and, BitVec.getLsbD_xor, Bool.and_eq_true,
    bne_iff_ne, ne_eq]

theorem toNat_adcValue (a m : Byte) (c : Bool) : (adcValue a m c).toNat = (a.toNat + m.toNat + c.toNat) % 256 :=
  BitVec.toNat_ofNat ..

theorem toNat_sbcValue (a m : Byte) : (sbcValue a m).toNat = (a.toNat + 256 - m.toNat) % 256 := by
  rw [sbcValue, BitVec.toNat_sub]
  omega

/-- A signed sum leaves -128 .. 127 when its summands have one sign and the reduced sum has the other (R110). -/
theorem Flags.afterAdc_V_iff (f : Flags) (a m : Byte) : (f.afterAdc a m).V = true ↔
    signedReading a + signedReading m + (f.C.toNat : Int) < -128 ∨
      127 < signedReading a + signedReading m + (f.C.toNat : Int) := by
  have hC := f.C.toNat_le
  rw [Flags.afterAdc_V, getLsbD_seven_xor_and_xor, toNat_adcValue]
  unfold signedReading
  omega

/-- The minuend is the subtrahend plus the difference, so a signed difference leaves -128 .. 127 when that sum
overflows (R111). -/
theorem Flags.afterSbc_V_iff (f : Flags) (a m : Byte) : (f.afterSbc a m).V = true ↔
    signedReading a - signedReading m < -128 ∨ 127 < signedReading a - signedReading m := by
  rw [Flags.afterSbc_V, BitVec.xor_comm a m, BitVec.xor_comm a, getLsbD_seven_xor_and_xor, toNat_sbcValue]
  unfold signedReading
  omega

/-- `Advance` from a state that still has s's PC passes the opcode byte and the operand bytes (R8, R50). -/
theorem advancesBy_advance {m : Mode} {s u : State} {o : Operand} (ho : operandOf m s = some o) (hpc : u.pc = s.pc) :
    AdvancesBy s (u.advance o.len) (1 + m.len) := by
  rw [AdvancesBy, State.advance_toNat, hpc, operandOf_len ho]

@[simp] theorem Operand.load_setFlags (o : Operand) (s : State) (f : Flags) : o.load (s.setFlags f) = o.load s := by
  obtain ⟨p, n⟩ := o
  cases p <;> rfl

/-- The carry before has no part in SBC: the difference leaves it out, and C is assigned (R111). -/
theorem sbc_setFlags_carry (o : Operand) (s : State) (c : Bool) :
    sbc o (s.setFlags { s.flags with C := c }) = sbc o s := by
  rw [sbc, Operand.load_setFlags]
  rfl

/-- Settles O29: every form is ADC on its operand; the value and the flags are those of R110. -/
theorem adcAddsOperandAndCarry : Obligations.AdcAddsOperandAndCarry := by
  refine ⟨by decide, fun i s hi => ?_⟩
  obtain ⟨o, ho, he⟩ := exec_operation (hi ▸ rfl : operationOf i.mnemonic = some adc) s
  exact ⟨o, _, ho, he, toNat_adcValue .., decide_eq_true_iff, Flags.afterAdc_V_iff .., rfl, znOf_setZN ..,
    advancesBy_advance ho rfl, rfl⟩

/-- Settles O30: every form is SBC on its operand, which no flag helps to resolve; the value and the flags are those of
R111, and neither depends on the carry before. -/
theorem sbcSubtractsWithoutBorrow : Obligations.SbcSubtractsWithoutBorrow := by
  have hop {i : Instr} (hi : i.mnemonic = .SBC) : operationOf i.mnemonic = some sbc := hi ▸ rfl
  refine ⟨by decide, fun i s hi => ?_, fun i s c hi => ?_⟩
  · obtain ⟨o, ho, he⟩ := exec_operation (hop hi) s
    exact ⟨o, _, ho, he, toNat_sbcValue .., decide_eq_true_iff, Flags.afterSbc_V_iff .., rfl, znOf_setZN ..,
      advancesBy_advance ho rfl, rfl⟩
  · obtain ⟨o, ho, he⟩ := exec_operation (hop hi) s
    calc exec i (s.setFlags { s.flags with C := c })
      _ = sbc o (s.setFlags { s.flags with C := c }) := exec_operation_setFlags (hop hi) ho _
      _ = sbc o s := sbc_setFlags_carry o s c
      _ = exec i s := he.symm

end Sys2Proof.Machine
end

section
/-! AND, ORA and EOR (41_logical.md R120 to R122), and what the instructions that write their result back through a memory
mode have in common. -/

namespace Sys2Proof.Machine

/-- A mode that resolves to an operand, neither A nor a literal, resolves to a byte of memory (R64). -/
theorem operandOf_memory {m : Mode} {s : State} {o : Operand} (h : operandOf m s = some o) (hacc : m.kind ≠ .accumulator)
    (himm : m.kind ≠ .immediate) : ∃ ea, o = ⟨.memory ea, m.len⟩ := by
  cases m with
  | accumulator => exact absurd rfl hacc
  | immediate => exact absurd rfl himm
  | implied | indirect | relative => cases h
  | zeroPage | zeroPageX | zeroPageY | absolute | absoluteX | absoluteY | indexedIndirect | indirectIndexed =>
    cases h
    exact ⟨_, rfl⟩

/-- Writing back through a memory mode changes the byte at its effective address, Z, N and PC (R121, R122, R150, R151). -/
theorem writeBack_memory_only (ea : Word) (n : Nat) (r : Byte) (s : State) :
    ∃ t, writeBack ⟨.memory ea, n⟩ r s = .next t ∧ MemoryOnlyAt s t ea r ∧ ZNOf r t.flags ∧ AdvancesBy s t (1 + n) ∧
      t = { s with mem := t.mem, pc := t.pc, flags := { s.flags with Z := t.flags.Z, N := t.flags.N } } :=
  ⟨_, writeBack_memory .., .of_write rfl, znOf_setZN .., State.advance_toNat .., rfl⟩

/-- A memory form of an instruction that writes back g of its operand's byte: the effective address is that of the state
before, and nothing but the byte there, Z, N and PC changes (R65, R121, R122, R150, R151). -/
theorem exec_writeBack_memory {i : Instr} {g : State → Byte → Byte}
    (hf : operationOf i.mnemonic = some fun o s => writeBack o (g s (o.load s)) s)
    (hmn : i.mnemonic ∉ [.ASL, .LSR, .ROL, .ROR]) (himm : i.mode.kind ≠ .immediate) (s : State) :
    ∃ ea t, operandOf i.mode s = some ⟨.memory ea, i.mode.len⟩ ∧ exec i s = .next t ∧
      t.mem.read ea = g s (s.mem.read ea) ∧ MemoryOnlyAt s t ea (t.mem.read ea) ∧ ZNOf (t.mem.read ea) t.flags ∧
      AdvancesBy s t (1 + i.mode.len) ∧
      t = { s with mem := t.mem, pc := t.pc, flags := { s.flags with Z := t.flags.Z, N := t.flags.N } } := by
  obtain ⟨o, ho, he⟩ := exec_operation hf s
  obtain ⟨ea, rfl⟩ := operandOf_memory ho (mt mnemonic_of_accumulator hmn) himm
  obtain ⟨t, ht, hmem, hrest⟩ := writeBack_memory_only ea i.mode.len (g s (s.mem.read ea)) s
  have hr : t.mem.read ea = g s (s.mem.read ea) := hmem.1
  exact ⟨ea, t, ho, he.trans ht, hr, hr.symm ▸ ⟨hmem, hrest⟩⟩

/-- Settles O31: every form is AND on its operand, whose result is `and` in each bit. -/
theorem andWritesTheAccumulator : Obligations.AndWritesTheAccumulator := by
  refine ⟨by decide, fun i s hi => ?_⟩
  obtain ⟨o, ho, he⟩ := exec_operation (hi ▸ rfl : operationOf i.mnemonic = some logicalAnd) s
  exact ⟨o, _, ho, he, fun _ => BitVec.getLsbD_and, znOf_setZN .., advancesBy_advance ho rfl, rfl⟩

/-- Settles O32: writing back to a literal raises; every other form of ORA and EOR writes its result back to memory. -/
theorem oraAndEorWriteBackThroughTheMode : Obligations.OraAndEorWriteBackThroughTheMode := by
  refine ⟨by decide, by decide, fun b s => ⟨writeBack_literal b 1 (s.a ||| b) s, writeBack_literal b 1 (s.a ^^^ b) s⟩, ?_⟩
  rintro i s (hi | hi) himm
  · have hop : operationOf i.mnemonic = some logicalOr := hi ▸ rfl
    obtain ⟨ea, t, ho, he, hr, hrest⟩ :=
      exec_writeBack_memory (g := fun s m => s.a ||| m) hop (by rw [hi]; decide) himm s
    exact ⟨ea, t, ho, he, fun _ _ => by rw [hr, BitVec.getLsbD_or], fun h => (nomatch hi.symm.trans h), hrest⟩
  · have hop : operationOf i.mnemonic = some logicalEor := hi ▸ rfl
    obtain ⟨ea, t, ho, he, hr, hrest⟩ :=
      exec_writeBack_memory (g := fun s m => s.a ^^^ m) hop (by rw [hi]; decide) himm s
    exact ⟨ea, t, ho, he, fun h => (nomatch hi.symm.trans h), fun _ _ => by rw [hr, BitVec.getLsbD_xor], hrest⟩

end Sys2Proof.Machine
end

section
/-! ASL, LSR, ROL and ROR (42_shift_rotate.md R130 to R133): their values as numbers, and the one shape of all their
forms. -/

namespace Sys2Proof.Machine

theorem toNat_aslValue (v : Byte) : (aslValue v).toNat = v.toNat * 2 % 256 := by
  rw [aslValue, BitVec.toNat_shiftLeft, Nat.shiftLeft_eq, pow_one]

theorem toNat_lsrValue (v : Byte) : (lsrValue v).toNat = v.toNat / 2 := by
  rw [lsrValue, BitVec.toNat_ushiftRight, Nat.shiftRight_eq_div_pow, pow_one]

theorem toNat_flagByte (c : Bool) : (flagByte c).toNat = c.toNat := by
  cases c <;> rfl

/-- Bit 0 of the doubled byte is free for the carry, so `or` adds it (R132). -/
theorem toNat_rolValue (v : Byte) (c : Bool) : (rolValue v c).toNat = v.toNat * 2 % 256 + c.toNat := by
  have hdouble : v.toNat * 2 % 256 = 2 ^ 1 * (v.toNat % 128) := by omega
  have hor : (rolValue v c).toNat = v.toNat * 2 % 256 ||| c.toNat := by
    rw [rolValue, BitVec.toNat_or, toNat_flagByte, ← aslValue, toNat_aslValue]
  rw [hor, hdouble, ← Nat.two_pow_add_eq_or_of_lt c.toNat_lt]

/-- Bit 7 of the halved byte is free for the carry, so `or` adds it (R133). -/
theorem toNat_rorValue (v : Byte) (c : Bool) : (rorValue v c).toNat = v.toNat / 2 + 128 * c.toNat := by
  have hcarry : (flagByte c <<< 7).toNat = 2 ^ 7 * c.toNat := by cases c <;> rfl
  have hhalf : v.toNat / 2 < 2 ^ 7 := by omega
  rw [rorValue, BitVec.toNat_or, hcarry, ← lsrValue, toNat_lsrValue, Nat.or_comm,
    ← Nat.two_pow_add_eq_or_of_lt hhalf, Nat.add_comm]

theorem getLsbD_seven_eq_decide (v : Byte) : v.getLsbD 7 = decide (128 ≤ v.toNat) :=
  Bool.eq_iff_iff.mpr ((getLsbD_seven v).trans decide_eq_true_iff.symm)

theorem getLsbD_zero_eq_decide (v : Byte) : v.getLsbD 0 = decide (v.toNat % 2 = 1) := Nat.testBit_zero _

/-- The mnemonics of this family. -/
def shiftMnemonics : List Mnemonic := [.ASL, .LSR, .ROL, .ROR]

/-- The kinds of mode the family's forms have (R130 to R133). -/
def shiftKinds : List ModeKind := [.accumulator, .zeroPage, .zeroPageX, .absolute, .absoluteX]

theorem kind_mem_shiftKinds {i : Instr} (h : i.mnemonic ∈ shiftMnemonics) : i.mode.kind ∈ shiftKinds :=
  have hlegal : ∀ mn ∈ shiftMnemonics, legalKinds mn ⊆ shiftKinds := by decide
  hlegal _ h i.kind_mem_legalKinds

/-- No form has a literal for its place, so Store never raises. -/
theorem operandOf_shiftKind {m : Mode} {s : State} {o : Operand} (h : operandOf m s = some o) (hk : m.kind ∈ shiftKinds) :
    o = ⟨.accumulator, m.len⟩ ∨ ∃ ea, o = ⟨.memory ea, m.len⟩ := by
  by_cases hacc : m.kind = .accumulator
  · obtain ⟨p, n⟩ := o
    obtain rfl : p = .accumulator := (operandOf_place_accumulator h).mpr hacc
    obtain rfl : n = m.len := operandOf_len h
    exact .inl rfl
  · exact .inr (operandOf_memory h hacc fun himm => absurd (himm ▸ hk) (by decide))

/-- At either place, storing the result is the one change that `ShiftsTo` states. -/
theorem shiftWith_shiftsTo {i : Instr} {s : State} {o : Operand} (ho : operandOf i.mode s = some o)
    (hmn : i.mnemonic ∈ shiftMnemonics) (c : Bool) (r : Byte) : ∃ t, shiftWith o c r s = .next t ∧ ShiftsTo i s t r c := by
  obtain rfl | ⟨ea, rfl⟩ := operandOf_shiftKind ho (kind_mem_shiftKinds hmn)
  · exact ⟨_, shiftWith_accumulator .., rfl, znOf_setZN .., State.advance_toNat .., .inl ⟨ho, rfl⟩⟩
  · exact ⟨_, shiftWith_memory .., rfl, znOf_setZN .., State.advance_toNat .., .inr ⟨ea, ho, .of_write rfl, rfl⟩⟩

/-- Every form of a mnemonic that stores g of its operand's byte and of C, and moves bit k of that byte out into C. -/
theorem exec_shift {i : Instr} {k : Nat} {g : Byte → Bool → Byte}
    (hf : operationOf i.mnemonic = some fun o s => shiftWith o ((o.load s).getLsbD k) (g (o.load s) s.flags.C) s)
    (hmn : i.mnemonic ∈ shiftMnemonics) (s : State) : ∃ o t, operandOf i.mode s = some o ∧ exec i s = .next t ∧
      ShiftsTo i s t (g (o.load s) s.flags.C) ((o.load s).getLsbD k) := by
  obtain ⟨o, ho, he⟩ := exec_operation hf s
  obtain ⟨t, ht, hshift⟩ := shiftWith_shiftsTo ho hmn ((o.load s).getLsbD k) (g (o.load s) s.flags.C)
  exact ⟨o, t, ho, he.trans ht, hshift⟩

theorem exec_asl {i : Instr} (hi : i.mnemonic = .ASL) (s : State) : ∃ o t, operandOf i.mode s = some o ∧
    exec i s = .next t ∧ ShiftsTo i s t (aslValue (o.load s)) ((o.load s).getLsbD 7) :=
  exec_shift (g := fun v _ => aslValue v) (hi ▸ rfl) (hi ▸ by decide) s

theorem exec_lsr {i : Instr} (hi : i.mnemonic = .LSR) (s : State) : ∃ o t, operandOf i.mode s = some o ∧
    exec i s = .next t ∧ ShiftsTo i s t (lsrValue (o.load s)) ((o.load s).getLsbD 0) :=
  exec_shift (g := fun v _ => lsrValue v) (hi ▸ rfl) (hi ▸ by decide) s

theorem exec_rol {i : Instr} (hi : i.mnemonic = .ROL) (s : State) : ∃ o t, operandOf i.mode s = some o ∧
    exec i s = .next t ∧ ShiftsTo i s t (rolValue (o.load s) s.flags.C) ((o.load s).getLsbD 7) :=
  exec_shift (hi ▸ rfl) (hi ▸ by decide) s

theorem exec_ror {i : Instr} (hi : i.mnemonic = .ROR) (s : State) : ∃ o t, operandOf i.mode s = some o ∧
    exec i s = .next t ∧ ShiftsTo i s t (rorValue (o.load s) s.flags.C) ((o.load s).getLsbD 0) :=
  exec_shift (hi ▸ rfl) (hi ▸ by decide) s

/-- N after a shift, as a comparison of the result's number (R20). -/
theorem ShiftsTo.N_iff {i : Instr} {s t : State} {r : Byte} {c : Bool} (h : ShiftsTo i s t r c) :
    t.flags.N = true ↔ 128 ≤ r.toNat := by
  obtain ⟨-, ⟨-, hN⟩, -⟩ := h
  exact hN

/-- Settles O33: ASL doubles and LSR halves; the half of a byte is below 128, so N is 0. -/
theorem aslAndLsrShiftByOne : Obligations.AslAndLsrShiftByOne := by
  refine ⟨by decide, by decide, ?_⟩
  rintro i s (hi | hi)
  · obtain ⟨o, t, ho, he, hshift⟩ := exec_asl hi s
    rw [getLsbD_seven_eq_decide] at hshift
    exact ⟨o, t, _, ho, he, fun _ => ⟨toNat_aslValue _, hshift⟩, fun h => (nomatch hi.symm.trans h)⟩
  · obtain ⟨o, t, ho, he, hshift⟩ := exec_lsr hi s
    have hN : t.flags.N = false := by
      rw [← Bool.not_eq_true, hshift.N_iff, toNat_lsrValue]
      omega
    rw [getLsbD_zero_eq_decide] at hshift
    exact ⟨o, t, _, ho, he, fun h => (nomatch hi.symm.trans h), fun _ => ⟨toNat_lsrValue _, hN, hshift⟩⟩

/-- Settles O34: the carry is added at bit 0 or at bit 7, where ROR's result has its sign. -/
theorem rolAndRorRotateThroughCarry : Obligations.RolAndRorRotateThroughCarry := by
  refine ⟨by decide, by decide, ?_⟩
  rintro i s (hi | hi)
  · obtain ⟨o, t, ho, he, hshift⟩ := exec_rol hi s
    rw [getLsbD_seven_eq_decide] at hshift
    exact ⟨o, t, _, ho, he, fun _ => ⟨toNat_rolValue .., hshift⟩, fun h => (nomatch hi.symm.trans h)⟩
  · obtain ⟨o, t, ho, he, hshift⟩ := exec_ror hi s
    have hC := s.flags.C.toNat_le
    have hN : t.flags.N = s.flags.C := by
      rw [Bool.eq_iff_iff, hshift.N_iff, toNat_rorValue, ← Bool.toNat_eq_one]
      omega
    rw [getLsbD_zero_eq_decide] at hshift
    exact ⟨o, t, _, ho, he, fun h => (nomatch hi.symm.trans h), fun _ => ⟨toNat_rorValue .., hN, hshift⟩⟩

end Sys2Proof.Machine
end

section
/-! Nine rotations of one place (42_shift_rotate.md, corner cases of R132 and R133): a rotation turns the nine bits of C
and the place round, and leaves the operand where it is for the next. -/

namespace Sys2Proof.Machine

/-- Rotations add up, read from the most significant bit on, which a rotation takes from a fixed distance round. -/
theorem rotateLeft_rotateLeft {w : Nat} (x : BitVec w) (m n : Nat) :
    (x.rotateLeft m).rotateLeft n = x.rotateLeft (m + n) := by
  apply BitVec.eq_of_getMsbD_eq
  intro i hi
  have hpos : 0 < w := Nat.zero_lt_of_lt hi
  simp only [BitVec.getMsbD_rotateLeft, Nat.mod_lt _ hpos, Nat.add_mod_mod, Nat.add_assoc, decide_true, Bool.true_and]

theorem rotateLeft_zero {w : Nat} (x : BitVec w) : x.rotateLeft 0 = x := by
  apply BitVec.eq_of_getMsbD_eq
  intro i hi
  rw [BitVec.getMsbD_rotateLeft, Nat.zero_add, Nat.mod_eq_of_lt hi, decide_eq_true hi, Bool.true_and]

/-- Rotating by any number of places as often as there are bits brings each bit back to its place. -/
theorem rotateLeft_width_mul {w : Nat} (k : Nat) (x : BitVec w) : x.rotateLeft (w * k) = x := by
  rw [← BitVec.rotateLeft_mod_eq_rotateLeft, Nat.mul_mod_right, rotateLeft_zero]

theorem getLsbD_flagByte (c : Bool) (n : Nat) : (flagByte c).getLsbD n = (decide (n = 0) && c) := by
  cases c with
  | false => exact BitVec.getLsbD_zero.trans (Bool.and_false _).symm
  | true => simp [flagByte]

/-- ROL is a rotation of nine bits, C above the place's eight (R132). -/
theorem cons_rolValue (c : Bool) (v : Byte) :
    BitVec.cons (v.getLsbD 7) (rolValue v c) = (BitVec.cons c v).rotateLeft 1 := by
  apply BitVec.eq_of_getLsbD_eq
  intro i hi
  simp only [BitVec.getLsbD_rotateLeft, BitVec.getLsbD_cons, rolValue, BitVec.getLsbD_or, getLsbD_flagByte]
  interval_cases i <;> simp

/-- ROR turns the nine bits the other way: by one to the right, which is by eight to the left (R133). -/
theorem cons_rorValue (c : Bool) (v : Byte) :
    BitVec.cons (v.getLsbD 0) (rorValue v c) = (BitVec.cons c v).rotateLeft 8 := by
  apply BitVec.eq_of_getLsbD_eq
  intro i hi
  simp only [BitVec.getLsbD_rotateLeft, BitVec.getLsbD_cons, rorValue, BitVec.getLsbD_or, BitVec.getLsbD_shiftLeft,
    getLsbD_flagByte]
  interval_cases i <;> simp

theorem cons_inj {w : Nat} {b c : Bool} {x y : BitVec w} (h : BitVec.cons b x = BitVec.cons c y) : b = c ∧ x = y :=
  ⟨by simpa using congrArg BitVec.msb h, by simpa using congrArg (BitVec.setWidth w) h⟩

/-- The nine bits that ROL and ROR rotate: C above the eight of the operand's byte. -/
def Operand.nineBits (o : Operand) (s : State) : BitVec 9 := BitVec.cons s.flags.C (o.load s)

/-- Nothing differs from s to t but the byte at the place p, C, Z, N and PC. -/
structure ChangesOnlyPlace (p : Place) (s t : State) : Prop where
  a : p ≠ .accumulator → t.a = s.a
  mem : ∀ b, p ≠ .memory b → t.mem.read b = s.mem.read b
  frame :
    t = { s with a := t.a, mem := t.mem, pc := t.pc, flags := { s.flags with C := t.flags.C, Z := t.flags.Z, N := t.flags.N } }

theorem ChangesOnlyPlace.refl (p : Place) (s : State) : ChangesOnlyPlace p s s := ⟨fun _ => rfl, fun _ _ => rfl, rfl⟩

theorem ChangesOnlyPlace.trans {p : Place} {s t u : State} (h : ChangesOnlyPlace p s t) (h' : ChangesOnlyPlace p t u) :
    ChangesOnlyPlace p s u where
  a hp := (h'.a hp).trans (h.a hp)
  mem b hb := (h'.mem b hb).trans (h.mem b hb)
  frame := h'.frame.trans (by rw [h.frame])

/-- Once the place holds its byte again, so does A and every byte of memory. -/
theorem ChangesOnlyPlace.restored {o : Operand} {s t : State} (h : ChangesOnlyPlace o.place s t)
    (hload : o.load t = o.load s) : t.a = s.a ∧ ∀ b, t.mem.read b = s.mem.read b := by
  obtain ⟨ha, hmem, -⟩ := h
  obtain ⟨p, n⟩ := o
  cases p with
  | accumulator => exact ⟨hload, fun b => hmem b nofun⟩
  | literal => exact ⟨ha nofun, fun b => hmem b nofun⟩
  | memory ea =>
    refine ⟨ha nofun, fun b => ?_⟩
    by_cases hb : ea = b
    · exact hb ▸ hload
    · exact hmem b (mt Place.memory.inj hb)

/-- What `ShiftsTo` says of its operand: C and the place hold the bit and the result, and no other place changed. -/
theorem ShiftsTo.changesOnlyPlace {i : Instr} {s t : State} {o : Operand} {r : Byte} {c : Bool} (h : ShiftsTo i s t r c)
    (ho : operandOf i.mode s = some o) : ChangesOnlyPlace o.place s t ∧ o.nineBits t = BitVec.cons c r := by
  obtain ⟨rfl, -, -, ⟨hacc, ht⟩ | ⟨ea, hmem, ⟨hread, hother⟩, ht⟩⟩ := h
  · obtain rfl := Option.some.inj (ho.symm.trans hacc)
    have ha : t.a = r := by rw [ht]
    have hm : t.mem = s.mem := by rw [ht]
    exact ⟨⟨absurd rfl, fun _ _ => by rw [hm], by rw [ha, hm]; exact ht⟩, congrArg (BitVec.cons _) ha⟩
  · obtain rfl := Option.some.inj (ho.symm.trans hmem)
    have ha : t.a = s.a := by rw [ht]
    exact ⟨⟨fun _ => ha, fun b hb => hother b fun e => hb (e ▸ rfl), by rw [ha]; exact ht⟩, congrArg (BitVec.cons _) hread⟩

/-- The modes of the shifts follow no pointer and use no index but X, so no other change moves the operand (R65). -/
theorem operandOf_eq_of_x_eq {m : Mode} {s t : State} (hk : m.kind ∈ shiftKinds) (hx : t.x = s.x) :
    operandOf m t = operandOf m s := by
  cases m with
  | accumulator | zeroPage | absolute => rfl
  | zeroPageX b => simp only [operandOf, Operand.zeroPageX, eaZeroPageX, hx]
  | absoluteX w => simp only [operandOf, Operand.absoluteX, eaAbsoluteX, hx]
  | _ => simp [Mode.kind, shiftKinds] at hk

/-- From s to t the nine bits of the instruction's operand turn by k places, and no other place changes. -/
def RotatesBy (k : Nat) (i : Instr) (s t : State) : Prop :=
  ∃ o, operandOf i.mode s = some o ∧ ChangesOnlyPlace o.place s t ∧ o.nineBits t = (o.nineBits s).rotateLeft k

/-- Every form of ROL and ROR rotates its nine bits, each time by the same number of places. -/
theorem exists_exec_rotatesBy {i : Instr} (hi : i.mnemonic = .ROL ∨ i.mnemonic = .ROR) :
    ∃ k, ∀ s, ∃ t, exec i s = .next t ∧ RotatesBy k i s t := by
  obtain hi | hi := hi
  · refine ⟨1, fun s => ?_⟩
    obtain ⟨o, t, ho, he, hshift⟩ := exec_rol hi s
    obtain ⟨honly, hbits⟩ := hshift.changesOnlyPlace ho
    exact ⟨t, he, o, ho, honly, hbits.trans (cons_rolValue ..)⟩
  · refine ⟨8, fun s => ?_⟩
    obtain ⟨o, t, ho, he, hshift⟩ := exec_ror hi s
    obtain ⟨honly, hbits⟩ := hshift.changesOnlyPlace ho
    exact ⟨t, he, o, ho, honly, hbits.trans (cons_rorValue ..)⟩

theorem execTimes_succ {i : Instr} {s t : State} (h : exec i s = .next t) (n : Nat) :
    execTimes i (n + 1) s = execTimes i n t := by
  simp only [execTimes, h]

/-- The second evaluation finds the operand of the first, so the rotations add up. -/
theorem RotatesBy.trans {i : Instr} {k l : Nat} {s t u : State} (hk : i.mode.kind ∈ shiftKinds) (h : RotatesBy k i s t)
    (h' : RotatesBy l i t u) : RotatesBy (k + l) i s u := by
  obtain ⟨o, ho, honly, hbits⟩ := h
  obtain ⟨o', ho', honly', hbits'⟩ := h'
  have hx : t.x = s.x := by rw [honly.frame]
  obtain rfl : o = o' := Option.some.inj (ho.symm.trans ((operandOf_eq_of_x_eq hk hx).symm.trans ho'))
  exact ⟨o, ho, honly.trans honly', by rw [hbits', hbits, rotateLeft_rotateLeft]⟩

/-- n evaluations rotate n times as far. -/
theorem execTimes_rotatesBy {i : Instr} {k : Nat} (hk : i.mode.kind ∈ shiftKinds)
    (hexec : ∀ s, ∃ t, exec i s = .next t ∧ RotatesBy k i s t) (n : Nat) (s : State) :
    ∃ t, execTimes i n s = .next t ∧ RotatesBy (n * k) i s t := by
  induction n generalizing s with
  | zero =>
    obtain ⟨_, _, o, ho, -⟩ := hexec s
    exact ⟨s, rfl, o, ho, .refl .., by rw [Nat.zero_mul, rotateLeft_zero]⟩
  | succ n ih =>
    obtain ⟨t, he, hrot⟩ := hexec s
    obtain ⟨u, hu, hrot'⟩ := ih t
    exact ⟨u, (execTimes_succ he n).trans hu, by rw [Nat.succ_mul, Nat.add_comm]; exact hrot.trans hk hrot'⟩

/-- Settles O35: nine rotations of nine bits bring each back to its place, C and the operand's byte with them. -/
theorem nineRotationsRestorePlaceAndCarry : Obligations.NineRotationsRestorePlaceAndCarry := by
  intro i s hi
  have hmn : i.mnemonic ∈ shiftMnemonics := by obtain hi | hi := hi <;> rw [hi] <;> decide
  obtain ⟨k, hexec⟩ := exists_exec_rotatesBy hi
  obtain ⟨t, ht, o, -, honly, hbits⟩ := execTimes_rotatesBy (kind_mem_shiftKinds hmn) hexec 9 s
  obtain ⟨hC, hload⟩ := cons_inj (hbits.trans (rotateLeft_width_mul ..))
  obtain ⟨ha, hmem⟩ := honly.restored hload
  exact ⟨t, ht, ha, hC, hmem, honly.frame.trans (by rw [ha, hC])⟩

end Sys2Proof.Machine
end

section
/-! CMP, CPX and CPY (43_compare.md R140 to R142): one operation on each form's operand, with the register for a
parameter. -/

namespace Sys2Proof.Machine

/-- A difference is negative exactly when it is not at least 0 (R140). -/
theorem Flags.afterCompare_N_eq_not_C (f : Flags) (r m : Byte) : (f.afterCompare r m).N = !(f.afterCompare r m).C := by
  rw [Flags.afterCompare_N, Flags.afterCompare_C, ← decide_not, decide_eq_decide]
  exact not_le.symm

/-- Every form of CMP, CPX and CPY compares its register with its operand (R140 to R142). -/
theorem exec_compare {i : Instr} {s : State} {r : Byte}
    (h : (i.mnemonic = .CMP ∧ r = s.a) ∨ (i.mnemonic = .CPX ∧ r = s.x) ∨ (i.mnemonic = .CPY ∧ r = s.y)) :
    ∃ o, operandOf i.mode s = some o ∧ exec i s = compareWith r o s := by
  obtain ⟨hi, rfl⟩ | ⟨hi, rfl⟩ | ⟨hi, rfl⟩ := h
  · exact exec_operation (hi ▸ rfl : operationOf i.mnemonic = some fun o s => compareWith s.a o s) s
  · exact exec_operation (hi ▸ rfl : operationOf i.mnemonic = some fun o s => compareWith s.x o s) s
  · exact exec_operation (hi ▸ rfl : operationOf i.mnemonic = some fun o s => compareWith s.y o s) s

/-- Settles O36: every form is the one comparison, whose flags are the signs of the difference (R140). -/
theorem comparesOrderUnsignedValues : Obligations.ComparesOrderUnsignedValues := by
  refine ⟨by decide, by decide, by decide, fun i s r h => ?_⟩
  obtain ⟨o, ho, he⟩ := exec_compare h
  exact ⟨o, _, ho, he, decide_eq_true_iff, decide_eq_true_iff, decide_eq_true_iff, Flags.afterCompare_N_eq_not_C ..,
    advancesBy_advance ho rfl, rfl⟩

end Sys2Proof.Machine
end

section
/-! INC, DEC, INX, INY, DEX and DEY (44_incdec.md R150 to R155): counting up and down by one modulo 256, in memory and in
the index registers. -/

namespace Sys2Proof.Machine

/-- Counting down is adding 255, so 0x00 gives 0xFF (R151). -/
theorem toNat_sub_one (v : Byte) : (v - 1).toNat = (v.toNat + 255) % 256 := by
  rw [BitVec.toNat_sub, Nat.add_comm]
  rfl

/-- A form is of no mode that its mnemonic does not have (R87). -/
theorem kind_ne_of_notMem_legalKinds {i : Instr} {k : ModeKind} (h : k ∉ legalKinds i.mnemonic) : i.mode.kind ≠ k :=
  fun hk => h (hk ▸ i.kind_mem_legalKinds)

/-- Settles O37: no form has a literal for its place, so every form writes the byte counted up or down back to memory. -/
theorem incAndDecModifyMemory : Obligations.IncAndDecModifyMemory := by
  refine ⟨by decide, by decide, ?_⟩
  rintro i s (hi | hi)
  · have hop : operationOf i.mnemonic = some increment := hi ▸ rfl
    have himm : i.mode.kind ≠ .immediate := kind_ne_of_notMem_legalKinds (by rw [hi]; decide)
    obtain ⟨ea, t, ho, he, hr, hrest⟩ :=
      exec_writeBack_memory (g := fun _ m => m + 1) hop (by rw [hi]; decide) himm s
    exact ⟨ea, t, ho, he, fun _ => hr ▸ BitVec.toNat_add .., fun h => (nomatch hi.symm.trans h), hrest⟩
  · have hop : operationOf i.mnemonic = some decrement := hi ▸ rfl
    have himm : i.mode.kind ≠ .immediate := kind_ne_of_notMem_legalKinds (by rw [hi]; decide)
    obtain ⟨ea, t, ho, he, hr, hrest⟩ :=
      exec_writeBack_memory (g := fun _ m => m - 1) hop (by rw [hi]; decide) himm s
    exact ⟨ea, t, ho, he, fun h => (nomatch hi.symm.trans h), fun _ => hr ▸ toNat_sub_one _, hrest⟩

/-- Settles O38: each evaluation sets the register to the next or the previous byte, and Z and N from that byte. -/
theorem indexRegistersCountModulo256 : Obligations.IndexRegistersCountModulo256 := by
  refine ⟨by decide, by decide, by decide, by decide, fun s => ⟨?inx, ?iny, ?dex, ?dey⟩⟩
  case inx => exact ⟨_, rfl, BitVec.toNat_add .., znOf_setZN .., State.advance_toNat .., rfl⟩
  case iny => exact ⟨_, rfl, BitVec.toNat_add .., znOf_setZN .., State.advance_toNat .., rfl⟩
  case dex => exact ⟨_, rfl, toNat_sub_one .., znOf_setZN .., State.advance_toNat .., rfl⟩
  case dey => exact ⟨_, rfl, toNat_sub_one .., znOf_setZN .., State.advance_toNat .., rfl⟩

end Sys2Proof.Machine
end

section
/-! The register transfers (45_transfer.md R160 to R165). -/

namespace Sys2Proof.Machine

/-- Settles O39: each evaluation copies the source and advances PC by its own byte; all but TXS set Z and N by SetZN of
the byte copied. -/
theorem transfersCopyOneRegister : Obligations.TransfersCopyOneRegister := by
  refine ⟨by decide, by decide, by decide, by decide, by decide, by decide,
    fun s => ⟨?tax, ?txa, ?tay, ?tya, ?tsx, ?txs⟩⟩
  case tax => exact ⟨_, rfl, znOf_setZN .., State.advance_toNat .., rfl⟩
  case txa => exact ⟨_, rfl, znOf_setZN .., State.advance_toNat .., rfl⟩
  case tay => exact ⟨_, rfl, znOf_setZN .., State.advance_toNat .., rfl⟩
  case tya => exact ⟨_, rfl, znOf_setZN .., State.advance_toNat .., rfl⟩
  case tsx => exact ⟨_, rfl, znOf_setZN .., State.advance_toNat .., rfl⟩
  case txs => exact ⟨_, rfl, State.advance_toNat .., rfl⟩

end Sys2Proof.Machine
end

section
/-! The stack and subroutine instructions (46_stack_subroutine.md R170 to R177): any number of pulls, the two bytes that
JSR pushes, then each instruction. -/

namespace Sys2Proof.Machine

theorem pulls_sp_toNat (n : Nat) (s : State) : (State.pulled^[n] s).sp.toNat = (s.sp.toNat + n) % 256 := by
  induction n generalizing s with
  | zero => exact (Nat.mod_eq_of_lt s.sp.isLt).symm
  | succ n ih =>
    rw [Function.iterate_succ_apply, ih, State.pulled_sp_toNat]
    omega

theorem pulls_mem (n : Nat) (s : State) : (State.pulled^[n] s).mem = s.mem := by
  induction n generalizing s with
  | zero => rfl
  | succ n ih => exact ih s.pulled

/-- The byte that the pull after n others reads, n + 1 above SP in the stack page (R48). -/
theorem pulls_pullByte (n : Nat) (s : State) : (State.pulled^[n] s).pullByte =
    s.mem.read (BitVec.ofNat 16 (0x0100 + (s.sp.toNat + (n + 1)) % 256)) := by
  rw [State.pullByte_eq, pulls_mem, pulls_sp_toNat, Nat.mod_add_mod, Nat.add_assoc]

/-- Two pushes in a row use two different bytes, for SP = 0x00 too. -/
theorem stackAddr_sub_one_ne (sp : Byte) : stackAddr (sp - 1) ≠ stackAddr sp := by
  intro h
  have hnum := congrArg BitVec.toNat h
  rw [toNat_stackAddr, toNat_stackAddr, toNat_sub_one] at hnum
  have := sp.isLt
  omega

/-- Where each of two pushed bytes stands, and the bytes they leave alone (R47). -/
theorem State.read_push_push (s : State) (hi lo : Byte) : let t := (s.push hi).push lo
    t.mem.read (stackAddr s.sp) = hi ∧ t.mem.read (stackAddr (s.sp - 1)) = lo ∧
      ∀ a, a ≠ stackAddr s.sp → a ≠ stackAddr (s.sp - 1) → t.mem.read a = s.mem.read a := by
  obtain ⟨hfirst, hframe⟩ := s.push_memoryOnlyAt hi
  obtain ⟨hsecond, hframe'⟩ := (s.push hi).push_memoryOnlyAt lo
  refine ⟨?_, hsecond, fun a hhi hlo => (hframe' a hlo).trans (hframe a hhi)⟩
  exact (hframe' _ (stackAddr_sub_one_ne s.sp).symm).trans hfirst

/-- SP one less, in the form in which a slot's address is stated. -/
theorem ofNat_pred_eq_sub_one (v : Byte) : BitVec.ofNat 8 ((v.toNat + 255) % 256) = v - 1 := by
  rw [← toNat_sub_one, BitVec.ofNat_toNat, BitVec.setWidth_eq]

/-- Settles O40: one Push or one Pull, then Advance; PLA's flags are those of SetZN. -/
theorem phaAndPlaMoveTheAccumulator : Obligations.PhaAndPlaMoveTheAccumulator := by
  refine ⟨by decide, by decide, fun s => ⟨?pha, ?pla⟩⟩
  case pha => exact ⟨_, rfl, s.push_memoryOnlyAt s.a, s.push_sp_toNat s.a, State.advance_toNat .., rfl⟩
  case pla => exact ⟨_, rfl, s.pulled_sp_toNat, rfl, znOf_setZN .., State.advance_toNat .., rfl⟩

/-- Settles O41: the byte pushed is PackP, PLP after it pulls that byte, and UnpackP undoes PackP. -/
theorem phpAndPlpMoveTheFlags : Obligations.PhpAndPlpMoveTheFlags := by
  refine ⟨by decide, by decide, fun s => ⟨?php, ?plp⟩⟩
  case php =>
    obtain ⟨hbyte, hframe⟩ := s.push_memoryOnlyAt s.flags.packP
    refine ⟨_, rfl, (congrArg BitVec.toNat hbyte).trans s.flags.toNat_packP, ⟨rfl, hframe⟩,
      s.push_sp_toNat s.flags.packP, State.advance_toNat .., rfl, _, rfl, ?_, BitVec.sub_add_cancel ..⟩
    calc Flags.unpackP (s.push s.flags.packP).pullByte
        = Flags.unpackP s.flags.packP := by rw [State.pullByte_push]
      _ = s.flags := s.flags.unpackP_packP
  case plp =>
    exact ⟨_, rfl, s.pulled_sp_toNat, ⟨rfl, rfl, rfl, rfl, rfl, rfl, rfl⟩, State.advance_toNat .., rfl⟩

/-- Settles O42: the two bytes pushed are the halves of PC + 2, the high one first. -/
theorem jsrPushesItsLastByteAddress : Obligations.JsrPushesItsLastByteAddress := by
  refine ⟨by decide, fun w s => ⟨_, rfl, rfl, ?stack, ?sp, rfl⟩⟩
  case stack =>
    have hret : (s.pc + 2).toNat = (s.pc.toNat + 2) % 65536 := BitVec.toNat_add ..
    obtain ⟨hhigh, hlow, hframe⟩ := s.read_push_push (highByte (s.pc + 2)) (lowByte (s.pc + 2))
    rw [ofNat_pred_eq_sub_one, ← hret]
    refine ⟨toNat_stackAddr s.sp, ?_, ?_, ?_, hframe⟩
    · rw [toNat_stackAddr, toNat_sub_one]
    · exact (congrArg BitVec.toNat hhigh).trans (toNat_highByte _)
    · exact (congrArg BitVec.toNat hlow).trans (toNat_lowByte _)
  case sp =>
    calc (s.sp - 1 - 1).toNat
        = ((s.sp.toNat + 255) % 256 + 255) % 256 := by rw [toNat_sub_one, toNat_sub_one]
      _ = (s.sp.toNat + 254) % 256 := by omega

/-- Settles O43: each byte pulled is the one that `pulls_pullByte` names. -/
theorem rtsAndRtiPullTheirAddress : Obligations.RtsAndRtiPullTheirAddress := by
  refine ⟨by decide, by decide, fun s => ?_⟩
  intro stacked
  have hfirst : s.pullByte = stacked 1 := pulls_pullByte 0 s
  have hsecond : s.pulled.pullByte = stacked 2 := pulls_pullByte 1 s
  have hthird : s.pulled.pulled.pullByte = stacked 3 := pulls_pullByte 2 s
  rw [← hfirst, ← hsecond, ← hthird]
  refine ⟨⟨_, rfl, ?rts, pulls_sp_toNat 2 s, rfl⟩, ⟨_, rfl, ?rti, pulls_sp_toNat 3 s, ?flags, rfl⟩⟩
  case rts => exact (BitVec.toNat_add ..).trans (by rw [toNat_concat]; rfl)
  case rti => exact toNat_concat ..
  case flags => exact ⟨rfl, rfl, rfl, rfl, rfl, rfl, rfl⟩

/-- Settles O44: u's SP is two below s's, so RTS pulls the two bytes that JSR pushed and joins them to PC + 2 again. -/
theorem rtsReturnsAfterItsJsr : Obligations.RtsReturnsAfterItsJsr := by
  intro w s t u ht hsp hhigh hlow
  cases ht
  obtain ⟨hpushedHigh, hpushedLow, -⟩ := s.read_push_push (highByte (s.pc + 2)) (lowByte (s.pc + 2))
  have hsp1 : u.sp + 1 = s.sp - 1 := by rw [hsp]; exact BitVec.sub_add_cancel ..
  have hsp2 : u.sp + 1 + 1 = s.sp := by rw [hsp1]; exact BitVec.sub_add_cancel ..
  have hlo : u.pullByte = lowByte (s.pc + 2) := by rw [State.pullByte, hsp1, hlow]; exact hpushedLow
  have hhi : u.pulled.pullByte = highByte (s.pc + 2) := by
    rw [State.pullByte, State.pulled_sp, hsp2, State.pulled_mem, hhigh]
    exact hpushedHigh
  refine ⟨_, rfl, ?_, hsp2⟩
  calc (concat u.pulled.pullByte u.pullByte + 1).toNat
      = (s.pc + 2 + 1).toNat := by rw [hhi, hlo, concat_high_low]
    _ = (s.pc.toNat + 3) % 65536 := by rw [BitVec.add_assoc]; exact BitVec.toNat_add ..

end Sys2Proof.Machine
end

section
/-! What a step does to F and to the canonical form, said once (60_exceptions.md R251 to R254; log 6), and the invariant. -/

namespace Sys2Proof.Machine

/-- What the decoder rejects is the byte at PC, and the matrix has no cell for it (R84, R251). -/
theorem Memory.opcodeCell_of_decodeAt_illegalOpcode {m : Memory} {pc : Word} {op : Byte}
    (h : m.decodeAt pc = .illegalOpcode op) : op = m.read pc ∧ opcodeCell op = none := by
  cases hcell : opcodeCell (m.read pc) with
  | none =>
    obtain rfl : m.read pc = op := Decoded.illegalOpcode.inj ((decodeAt_of_opcodeCell_none hcell).symm.trans h)
    exact ⟨rfl, hcell⟩
  | some c =>
    obtain ⟨i, hi, -⟩ := decodeAt_of_opcodeCell_some hcell
    cases hi.symm.trans h

/-- The byte at PC is the opcode of the instruction decoded there (R84, R89). -/
theorem Memory.read_of_decodeAt_instr {m : Memory} {pc : Word} {i : Instr} (h : m.decodeAt pc = .instr i) :
    m.read pc = i.opcode := by
  obtain ⟨hop, -⟩ := eq_of_decode_instr ((m.decodeAt_eq pc).symm.trans h)
  exact (m.read_opcode_address pc).symm.trans hop.symm

/-- An evaluation keeps F, or it is one of `ORA #` and `EOR #` and is the raise alone (R252). -/
theorem exec_fault_cases {i : Instr} {s t : State} (h : exec i s = .next t) : t.fault = s.fault ∨
    ((∃ b, i = .oraImm b) ∨ ∃ b, i = .eorImm b) ∧ t = s.raise (.invalidOperation s.pc) := by
  cases i with
  | oraImm b =>
    cases h
    exact .inr ⟨.inl ⟨b, rfl⟩, rfl⟩
  | eorImm b =>
    cases h
    exact .inr ⟨.inr ⟨b, rfl⟩, rfl⟩
  | _ =>
    cases h
    exact .inl rfl

/-- Pushing bytes keeps the canonical form. -/
theorem pushes_wf (vs : List Byte) {s : State} (hm : s.mem.wf = true) : (vs.foldl State.push s).mem.wf = true := by
  induction vs generalizing s with
  | nil => exact hm
  | cons v vs ih => exact ih (Memory.wf_write _ v hm)

/-- Whatever an instruction does to memory, it does by writes, so it keeps the canonical form (log 6). -/
theorem exec_wf {i : Instr} {s t : State} (hm : s.mem.wf = true) (h : exec i s = .next t) : t.mem.wf = true := by
  obtain hmem | ⟨-, ea, v, -, hmem⟩ | ⟨-, vs, hmem⟩ := exec_mem h <;> rw [hmem]
  · exact hm
  · exact Memory.wf_write ea v hm
  · exact pushes_wf vs hm

theorem State.faultAccurate_of_none {s : State} (h : s.fault = none) : s.faultAccurate := by
  simp only [State.faultAccurate, h]

/-- Evaluating the instruction decoded at PC leaves F None, or records that instruction (R252). -/
theorem exec_faultAccurate {i : Instr} {s t : State} (hf : s.fault = none) (hd : s.decodeHere = .instr i)
    (h : exec i s = .next t) : t.faultAccurate := by
  have hop : s.mem.read s.pc = i.opcode := Memory.read_of_decodeAt_instr hd
  obtain hkept | ⟨⟨b, rfl⟩ | ⟨b, rfl⟩, rfl⟩ := exec_fault_cases h
  · exact State.faultAccurate_of_none (hkept.trans hf)
  · exact ⟨rfl, .inl hop⟩
  · exact ⟨rfl, .inr hop⟩

/-- Settles O15: an evaluation keeps the canonical form and records the instruction at PC; the fault entry of an illegal
byte leaves memory alone and records the byte at PC. -/
theorem everyStepKeepsTheInvariant : Obligations.EveryStepKeepsTheInvariant := by
  rintro s t ⟨hm, -⟩ h
  obtain ⟨hf, ⟨i, hd, he⟩ | ⟨op, hd, rfl⟩⟩ := step_next h
  · exact ⟨exec_wf hm he, exec_faultAccurate hf hd he⟩
  · exact ⟨hm, rfl, Memory.opcodeCell_of_decodeAt_illegalOpcode hd⟩

end Sys2Proof.Machine
end

section
/-! The faults (60_exceptions.md R252 to R254) and the end of a run (70_reset_and_hazards.md R274, R275). -/

namespace Sys2Proof.Machine

/-- Settles O12: a Store to a literal raises, and F changes in no other way. -/
theorem onlyOraAndEorImmediateRaise : Obligations.OnlyOraAndEorImmediateRaise := by
  refine ⟨fun b s => ⟨writeBack_literal b 1 (s.a ||| b) s, writeBack_literal b 1 (s.a ^^^ b) s⟩, fun i s t hf h => ?_⟩
  obtain hkept | ⟨hi, rfl⟩ := exec_fault_cases h
  · refine iff_of_false (not_not_intro (hkept.trans hf)) ?_
    rintro (⟨b, rfl⟩ | ⟨b, rfl⟩) <;> (cases h; cases hkept.trans hf)
  · exact iff_of_true nofun hi

/-- A step that sets F is a raise (R254). -/
theorem eq_raise_of_step {s t : State} {f : Fault} (h : step s = .next t) (ht : t.fault = some f) : t = s.raise f := by
  obtain ⟨hf, ⟨i, -, he⟩ | ⟨op, -, rfl⟩⟩ := step_next h
  · obtain hkept | ⟨-, rfl⟩ := exec_fault_cases he
    · cases (hkept.trans hf).symm.trans ht
    · rw [Option.some.inj ht]
  · rw [Option.some.inj ht]

/-- Settles O11: a step that sets F is a raise, and an evaluation keeps F or raises. -/
theorem faultEntryChangesOnlyTheFaultStatus : Obligations.FaultEntryChangesOnlyTheFaultStatus := by
  refine ⟨fun s t f _ h ht => ⟨eq_raise_of_step h ht, step_of_fault ht⟩, fun i s t hf h => ?_⟩
  obtain hkept | ⟨-, rfl⟩ := exec_fault_cases h
  · rwa [hkept]
  · exact nofun

theorem exists_exec_eq_next (i : Instr) (s : State) : ∃ t, exec i s = .next t := by
  cases exec_confined i s with
  | raises f hr => exact ⟨_, hr s.flags⟩
  | completes t ht _ => exact ⟨t, ht⟩

/-- Both answers of the decoder lead to a next state (R253, R275). -/
theorem exists_step_eq_next {s : State} (hf : s.fault = none) : ∃ t, step s = .next t := by
  cases hd : s.decodeHere with
  | instr i => exact step_of_instr hf hd ▸ exists_exec_eq_next i s
  | illegalOpcode op => exact ⟨_, step_of_illegalOpcode hf hd⟩

/-- Settles O13: the decoder always answers, and so does every evaluation. -/
theorem runningMachineAlwaysSteps : Obligations.RunningMachineAlwaysSteps :=
  ⟨fun _ => exists_step_eq_next, exists_exec_eq_next⟩

theorem runUntil_of_fault {stop : State → Bool} {s : State} {f : Fault} (hf : s.fault = some f) (n : Nat) :
    runUntil stop n s = .faulted s f := by
  cases n <;> simp only [runUntil, hf]

theorem runUntil_of_stop {stop : State → Bool} {s : State} (hf : s.fault = none) (hs : stop s = true) (n : Nat) :
    runUntil stop n s = .stopped s := by
  cases n <;> simp only [runUntil, hf, hs, if_true]

theorem runUntil_zero_of_running {stop : State → Bool} {s : State} (hf : s.fault = none) (hs : stop s = false) :
    runUntil stop 0 s = .running s := by
  simp only [runUntil, hf, hs, Bool.false_eq_true, if_false]

theorem runUntil_succ_of_running {stop : State → Bool} {s t : State} (hf : s.fault = none) (hs : stop s = false)
    (h : step s = .next t) (n : Nat) : runUntil stop (n + 1) s = runUntil stop n t := by
  simp only [runUntil, hf, hs, Bool.false_eq_true, if_false, h]

/-- Settles O14: by induction on the count of steps; a state that is neither faulted nor at STOP has a next state, from
which fewer steps remain. -/
theorem runEndsOnlyByFaultOrStop : Obligations.RunEndsOnlyByFaultOrStop := by
  intro stop n s
  induction n using Nat.strong_induction_on generalizing s with
  | _ n ih =>
    cases hf : s.fault with
    | some f => exact .inr (.inl ⟨s, f, runUntil_of_fault hf n, hf, step_of_fault hf⟩)
    | none =>
      cases hs : stop s with
      | true => exact .inl ⟨s, runUntil_of_stop hf hs n, hs, hf⟩
      | false =>
        obtain ⟨t, ht⟩ := exists_step_eq_next hf
        cases n with
        | zero => exact .inr (.inr ⟨s, runUntil_zero_of_running hf hs, hs, hf, t, ht⟩)
        | succ n =>
          rw [runUntil_succ_of_running hf hs ht]
          exact ih n n.lt_succ_self t

end Sys2Proof.Machine
end

section
/-! Loading a byte string (70_reset_and_hazards.md R273), and the word of the opcode table loaded for the next fetch
(log 5). -/

namespace Sys2Proof.Machine

/-- A load writes only at its addresses (R273). -/
theorem Memory.read_load_of_outside {m : Memory} {a c : Word} {bytes : List Byte}
    (h : ∀ k < bytes.length, c.toNat ≠ (a.toNat + k) % 65536) : (m.load a bytes).read c = m.read c := by
  induction bytes generalizing m a with
  | nil => rfl
  | cons v rest ih =>
    have hfirst : c ≠ a := by
      rintro rfl
      exact h 0 (Nat.zero_lt_succ _) (Nat.mod_eq_of_lt c.isLt).symm
    have hrest : ∀ k < rest.length, c.toNat ≠ ((a + 1).toNat + k) % 65536 := by
      intro k hk
      have hnext : (a + 1).toNat = (a.toNat + 1) % 65536 := BitVec.toNat_add ..
      have := h (k + 1) (Nat.succ_lt_succ hk)
      omega
    rw [Memory.load, ih hrest, Memory.read_write, if_neg hfirst]

/-- Each byte of a load is read back: up to 65,536 bytes, no later one is stored at its address (R273). -/
theorem Memory.read_load {bytes : List Byte} (hlen : bytes.length ≤ 65536) (m : Memory) (a : Word) (k : Nat)
    (hk : k < bytes.length) : (m.load a bytes).read (BitVec.ofNat 16 ((a.toNat + k) % 65536)) = bytes[k] := by
  induction bytes generalizing m a k with
  | nil => exact absurd hk (Nat.not_lt_zero k)
  | cons v rest ih =>
    rw [List.length_cons] at hlen hk
    have hnext : (a + 1).toNat = (a.toNat + 1) % 65536 := BitVec.toNat_add ..
    cases k with
    | zero =>
      have hlater : ∀ k < rest.length, a.toNat ≠ ((a + 1).toNat + k) % 65536 := by
        intro k hk
        omega
      rw [Memory.read_opcode_address, Memory.load, Memory.read_load_of_outside hlater, Memory.read_write, if_pos rfl]
      rfl
    | succ k =>
      have haddr : (a.toNat + (k + 1)) % 65536 = ((a + 1).toNat + k) % 65536 := by omega
      rw [haddr]
      exact ih (by omega) (m.write a v) (a + 1) k (by omega)

/-- Settles O21: the two rules of a load; it is an update of memory alone. -/
theorem loadPlacesEveryByte : Obligations.LoadPlacesEveryByte := fun s a _ hlen =>
  ⟨Memory.read_load hlen s.mem a, fun _ => Memory.read_load_of_outside, rfl⟩

/-- No instruction is longer than three bytes, so the decoder looks at no more (R84). -/
theorem decode_congr {byte byte' : Nat → Byte} (h : ∀ k < 3, byte k = byte' k) : decode byte = decode byte' := by
  simp only [decode, h 0 (by decide), h 1 (by decide), h 2 (by decide)]

theorem decode_of_decodeTableWord {nbits w : Nat} {i : Instr} (h : decodeTableWord nbits w = some i) :
    decode (tableByte nbits w) = .instr i := by
  unfold decodeTableWord at h
  split at h
  · rename_i j hj
    rw [hj, Option.some.inj h]
  · cases h

/-- The bytes of a word placed for the next fetch (log 5). -/
def tableBytes (nbits w : Nat) : List Byte := (List.range 3).map (tableByte nbits w)

theorem State.withFetchWord_mem (s : State) (nbits w : Nat) :
    (s.withFetchWord nbits w).mem = s.mem.load s.pc (tableBytes nbits w) := rfl

theorem State.withFetchWord_pc (s : State) (nbits w : Nat) : (s.withFetchWord nbits w).pc = s.pc := rfl

/-- The next fetch reads the placed bytes (R84, R85). -/
theorem State.decodeHere_withFetchWord (s : State) (nbits w : Nat) :
    (s.withFetchWord nbits w).decodeHere = decode (tableByte nbits w) := by
  have hlen : (tableBytes nbits w).length = 3 := rfl
  rw [State.decodeHere, State.withFetchWord_mem, State.withFetchWord_pc, Memory.decodeAt_eq]
  refine decode_congr fun k hk => ?_
  rw [Memory.read_load (by omega) s.mem s.pc k (by omega)]
  simp only [tableBytes, List.getElem_map, List.getElem_range]

/-- Settles O9: the step is that of the instruction decoded at PC, and placing the word is a load of three bytes there. -/
theorem placedWordIsTheNextInstruction : Obligations.PlacedWordIsTheNextInstruction := fun s nbits w =>
  ⟨fun _ hi => step_of_instr rfl ((s.decodeHere_withFetchWord nbits w).trans (decode_of_decodeTableWord hi)), rfl,
    fun _ hout => s.withFetchWord_mem nbits w ▸ Memory.read_load_of_outside hout⟩

/-- Settles O8: the decoder evaluated on eleven words. -/
theorem sampleWordsDecode : Obligations.SampleWordsDecode := by
  unfold Obligations.SampleWordsDecode
  decide

end Sys2Proof.Machine
end

section
/-! The branches and JMP (47_branch_jump.md R190 to R199). -/

namespace Sys2Proof.Machine

/-- A displacement is added to an address as a signed number, modulo 65,536 (R7, R190). -/
theorem toNat_add_signExtend (w : Word) (b : Byte) :
    ((w + b.signExtend 16).toNat : Int) = ((w.toNat : Int) + signedReading b) % 65536 := by
  have hext : (b.signExtend 16).toNat = b.toNat + if 128 ≤ b.toNat then 65536 - 256 else 0 := by
    rw [BitVec.toNat_signExtend, BitVec.toNat_setWidth_of_le (by decide), BitVec.msb_eq_decide]
    simp only [decide_eq_true_eq]
  rw [BitVec.toNat_add, hext, signedReading]
  split_ifs <;> omega

/-- The common rule of the branches, for a condition that cond decides: where PC goes, and that nothing else changes
(R190). -/
theorem branchIf_next {cond : Bool} {P : Prop} (hP : P ↔ cond = true) (b : Byte) (s : State) :
    ∃ t, branchIf cond b s = .next t ∧
      (P → (t.pc.toNat : Int) = ((s.pc.toNat : Int) + 2 + signedReading b) % 65536) ∧
      (¬P → AdvancesBy s t 2) ∧ t = { s with pc := t.pc } := by
  have hnext : (s.pc + 2).toNat = (s.pc.toNat + 2) % 65536 := BitVec.toNat_add ..
  rw [hP]
  cases cond with
  | true =>
    refine ⟨_, rfl, fun _ => ?_, fun h => absurd rfl h, rfl⟩
    refine (toNat_add_signExtend (s.pc + 2) b).trans ?_
    rw [hnext]
    omega
  | false => exact ⟨_, rfl, nofun, fun _ => hnext, rfl⟩

/-- Settles O45: each branch is the common rule for its own condition. -/
theorem branchesFollowTheirCondition : Obligations.BranchesFollowTheirCondition := by
  refine ⟨by decide, by decide, by decide, by decide, by decide, by decide, by decide, by decide, fun b s => ?_⟩
  have onClear (c : Bool) := branchIf_next (Bool.not_eq_true' c).symm.to_iff b s
  have onSet (c : Bool) := branchIf_next (.refl (c = true)) b s
  simp only [List.forall_mem_cons]
  exact ⟨onClear _, onSet _, onClear _, onSet _, onClear _, onSet _, onClear _, onSet _, List.forall_mem_nil _⟩

/-- Settles O46: PC becomes the address, or the pointer that Read16 reads there. -/
theorem jmpSetsTheProgramCounter : Obligations.JmpSetsTheProgramCounter :=
  ⟨by decide, fun w s => ⟨rfl, _, rfl, s.mem.toNat_read16 w, rfl⟩⟩

end Sys2Proof.Machine
end

section
/-! The flag instructions, BIT, NOP and BRK (48_flag_bit_nop.md R210 to R219). -/

namespace Sys2Proof.Machine

/-- An instruction that assigns flags and advances past its opcode byte changes nothing else (R210 to R216). -/
theorem exec_assigns_flags {i : Instr} {s : State} {f : Flags} (h : exec i s = .next ((s.setFlags f).advance 0)) :
    ∃ t, exec i s = .next t ∧ AdvancesBy s t 1 ∧ t = { s with flags := f, pc := t.pc } :=
  ⟨_, h, State.advance_toNat .., rfl⟩

/-- Settles O47: each evaluation assigns the flags with its one flag written. -/
theorem flagInstructionsWriteOneFlag : Obligations.FlagInstructionsWriteOneFlag := by
  refine ⟨by decide, by decide, by decide, by decide, by decide, by decide, by decide, fun s => ?_⟩
  simp only [List.forall_mem_cons]
  exact ⟨exec_assigns_flags rfl, exec_assigns_flags rfl, exec_assigns_flags rfl, exec_assigns_flags rfl,
    exec_assigns_flags rfl, exec_assigns_flags rfl, exec_assigns_flags rfl, List.forall_mem_nil _⟩

/-- Bit 6 of a byte, as the numbers have it (R8). -/
theorem getLsbD_six (v : Byte) : v.getLsbD 6 = true ↔ 64 ≤ v.toNat % 128 := by
  rw [BitVec.getLsbD, Nat.testBit_eq_decide_div_mod_eq, decide_eq_true_eq]
  omega

/-- A byte is 0 when none of its bits is 1 (R217). -/
theorem and_eq_zero_iff (v w : Byte) : v &&& w = 0 ↔ ∀ n < 8, (v.getLsbD n && w.getLsbD n) = false := by
  simp only [← BitVec.getLsbD_and]
  refine ⟨fun h n _ => by rw [h]; exact BitVec.getLsbD_zero, fun h => BitVec.eq_of_getLsbD_eq fun n hn => ?_⟩
  exact (h n hn).trans BitVec.getLsbD_zero.symm

/-- Settles O48: both forms are BIT on their operand; Z is that of the and, N and V are bits of the operand. -/
theorem bitTestsTheOperand : Obligations.BitTestsTheOperand := by
  refine ⟨by decide, fun i s hi => ?_⟩
  obtain ⟨o, ho, he⟩ := exec_operation (hi ▸ rfl : operationOf i.mnemonic = some bitTest) s
  exact ⟨o, _, ho, he, decide_eq_true_iff.trans (and_eq_zero_iff ..), getLsbD_seven _, getLsbD_six _,
    advancesBy_advance ho rfl, rfl⟩

/-- Settles O49: both evaluations are `Advance` alone. -/
theorem nopAndBrkAdvanceOnly : Obligations.NopAndBrkAdvanceOnly := by
  refine ⟨by decide, by decide, ?_⟩
  rintro i s (rfl | rfl)
  · exact ⟨_, rfl, State.advance_toNat .., rfl⟩
  · exact ⟨_, rfl, State.advance_toNat .., rfl⟩

end Sys2Proof.Machine
end

section
/-! The loads and stores (49_load_store.md R230 to R235). -/

namespace Sys2Proof.Machine

/-- Settles O50: every form of a load is that load on its operand, with Z and N by SetZN of the byte loaded. -/
theorem loadsWriteTheirRegister : Obligations.LoadsWriteTheirRegister := by
  refine ⟨by decide, by decide, by decide, fun i s hi => ?lda, fun i s hi => ?ldx, fun i s hi => ?ldy⟩
  case lda =>
    obtain ⟨o, ho, he⟩ := exec_operation (hi ▸ rfl : operationOf i.mnemonic = some lda) s
    exact ⟨o, _, ho, he, znOf_setZN .., advancesBy_advance ho rfl, rfl⟩
  case ldx =>
    obtain ⟨o, ho, he⟩ := exec_operation (hi ▸ rfl : operationOf i.mnemonic = some ldx) s
    exact ⟨o, _, ho, he, znOf_setZN .., advancesBy_advance ho rfl, rfl⟩
  case ldy =>
    obtain ⟨o, ho, he⟩ := exec_operation (hi ▸ rfl : operationOf i.mnemonic = some ldy) s
    exact ⟨o, _, ho, he, znOf_setZN .., advancesBy_advance ho rfl, rfl⟩

/-- The mnemonics of the stores. -/
def storeMnemonics : List Mnemonic := [.STA, .STX, .STY]

/-- Every form of a store has its operand in memory (R88, R233 to R235). -/
theorem operandOf_store {i : Instr} (hi : i.mnemonic ∈ storeMnemonics) {s : State} {o : Operand}
    (ho : operandOf i.mode s = some o) : ∃ ea, o = ⟨.memory ea, i.mode.len⟩ := by
  have hlegal : ∀ mn ∈ storeMnemonics, .accumulator ∉ legalKinds mn ∧ .immediate ∉ legalKinds mn := by decide
  obtain ⟨hacc, himm⟩ := hlegal _ hi
  exact operandOf_memory ho (kind_ne_of_notMem_legalKinds hacc) (kind_ne_of_notMem_legalKinds himm)

/-- Every form of STA, STX and STY stores its register through its mode (R233 to R235). -/
theorem exec_store {i : Instr} {s : State} {v : Byte}
    (h : (i.mnemonic = .STA ∧ v = s.a) ∨ (i.mnemonic = .STX ∧ v = s.x) ∨ (i.mnemonic = .STY ∧ v = s.y)) :
    i.mnemonic ∈ storeMnemonics ∧ ∃ o, operandOf i.mode s = some o ∧ exec i s = storeReg v o s := by
  obtain ⟨hi, rfl⟩ | ⟨hi, rfl⟩ | ⟨hi, rfl⟩ := h
  · exact ⟨hi ▸ by decide, exec_operation (hi ▸ rfl : operationOf i.mnemonic = some fun o s => storeReg s.a o s) s⟩
  · exact ⟨hi ▸ by decide, exec_operation (hi ▸ rfl : operationOf i.mnemonic = some fun o s => storeReg s.x o s) s⟩
  · exact ⟨hi ▸ by decide, exec_operation (hi ▸ rfl : operationOf i.mnemonic = some fun o s => storeReg s.y o s) s⟩

/-- Settles O51: the operand is a byte of memory, so the Store does not raise and is one write. -/
theorem storesWriteOneByte : Obligations.StoresWriteOneByte := by
  refine ⟨by decide, by decide, by decide, fun i s v h => ?_⟩
  obtain ⟨hmn, o, ho, he⟩ := exec_store h
  obtain ⟨ea, rfl⟩ := operandOf_store hmn ho
  exact ⟨ea, _, ho, he.trans (storeReg_memory ..), .of_write rfl, State.advance_toNat .., rfl⟩

end Sys2Proof.Machine
end
